-- ==== Sys2Proof/Word.lean ====
section
/-! DEFINITION. The word types of the Soft UART Tx (spec/30_encoding.md R71, spec/10_state.md R20): every value is unsigned (R12). -/

namespace Sys2Proof

/-- An operation word: 16 bits, never more and never fewer (R71). -/
abbrev OpWord := BitVec 16

/-- The data byte of SEND and the type of `PENDING` (R22, R73). -/
abbrev Byte := BitVec 8

/-- The holder of `POS`: the integer `0..10` in 4 bits (R23, decision D24). -/
abbrev Pos := BitVec 4

/-- `TS_CTRL`: `IE` is bit 0, `CS` is bit 1 (R25). -/
abbrev TsCtrl := BitVec 2

end Sys2Proof
end

