-- ==== Sys2Proof/Syntax.lean ====
section
/-! DEFINITION. The operations of the opcode table, who may issue one, and the names of faults and refusals (spec/30_encoding.md R74, R75; spec/60_exceptions.md R151, R158). -/

namespace Sys2Proof

/-- One constructor per row of spec/opcode_table.json (R74). -/
inductive Instr where
  /-- INIT, word `0x1000`, issued by FG (R100). -/
  | init
  /-- SEND `data`, word `0x2000 | data`, issued by FG (R101, R102). -/
  | send (data : Byte)
  /-- TICK, word `0x3000`, issued by TS (R120 to R126). -/
  | tick
  /-- TS_START, word `0x4000`, internal to the SEND commit (R103). -/
  | tsStart
  /-- TS_STOP, word `0x5000`, internal to the TICK at position 10 (R104). -/
  | tsStop
  /-- EI, word `0x6000`, issued by HOST (R140). -/
  | ei
  /-- DI, word `0x7000`, issued by HOST (R141). -/
  | di
  deriving DecidableEq, Repr

/-- A context that issues operation words.
R10 names the three agents FG, TS and HOST.
R158 names two more places an operation may come from, and refuses it there:
a second foreground context, and any interrupt context other than the tick source's own. -/
inductive Issuer where
  /-- FG, the foreground execution context (R10). -/
  | fg
  /-- TS, the tick source: it issues TICK for as long as one can be delivered (R10, R120). -/
  | ts
  /-- HOST, the environment (R10, R142). -/
  | host
  /-- A second foreground context (R158, R189). -/
  | fg2
  /-- An interrupt context of the host other than the tick source's (R158, R188). -/
  | isr
  deriving DecidableEq, Repr, Inhabited

/-- The fault codes of R151. -/
inductive FaultCode where
  /-- code 1: INIT with `INITED = 1`. -/
  | initTwice
  /-- code 2: INIT with `GIE = 1`. -/
  | initUnmasked
  /-- code 3: SEND with `INITED = 0`. -/
  | sendBeforeInit
  /-- code 4: TICK with `POS` outside `0..10`. -/
  | posRange
  deriving DecidableEq, Repr

/-- The code number that R151 gives each fault. -/
def FaultCode.code : FaultCode → Nat
  | .initTwice => 1
  | .initUnmasked => 2
  | .sendBeforeInit => 3
  | .posRange => 4

/-- The reasons of R158 for which the run-wide refusal mark is set.
The first four refuse one operation and stop its agent; the last refuses the whole run, which has no step. -/
inductive RefusalReason where
  /-- `RESERVED_OP` (R76). -/
  | reservedOp
  /-- `RESERVED_BITS` (R76). -/
  | reservedBits
  /-- `WRONG_ISSUER` (R75). -/
  | wrongIssuer
  /-- `SECOND_CONTEXT` (R158). -/
  | secondContext
  /-- `BAD_CONFIG` (R9, R158). It follows from the configuration alone, so no step records it. -/
  | badConfig
  deriving DecidableEq, Repr

/-- The order of R158's table, used only to keep a set of reasons in one canonical order. -/
def RefusalReason.rank : RefusalReason → Nat
  | .reservedOp => 1
  | .reservedBits => 2
  | .wrongIssuer => 3
  | .secondContext => 4
  | .badConfig => 5

end Sys2Proof
end

