-- ==== Sys2Proof/Config.lean ====
section
/-! DEFINITION. The implementation parameters of spec/00_scope.md R8 and R9, the scheduler's moves (R10, R120), and the one free value of the model: the scheduler's choice (R154). -/

namespace Sys2Proof

/-- The two levels of R11. -/
inductive Level where
  /-- The untimed, normative level: a tick may fall due whenever the tick source runs. -/
  | untimed
  /-- The timed level: a tick falls due when `TS_COUNT` completes a period. -/
  | timed
  deriving DecidableEq, Repr

/-- The parameters of R8 that are fixed before INIT and never change (R8).
They are a field of State, so that every statement about a state holds for every configuration. -/
structure Config where
  /-- `LINE_ID`: the identity of the output line, abstract (R8). -/
  lineId : Nat
  /-- `F_DRV`, in Hz (R8). -/
  fDrv : Nat
  /-- `BAUD`, in bits per second (R8). -/
  baud : Nat
  /-- `PERIOD_MAX`, the largest tick count the tick source can hold (R8, decision D9). -/
  periodMax : Nat
  /-- The level at which the model runs (R11). -/
  level : Level
  deriving DecidableEq, Repr

/-- `P = F_DRV div BAUD`, truncating (R9). -/
def Config.period (c : Config) : Nat := c.fDrv / c.baud

/-- `DATA_BITS` (R8). -/
def Config.dataBits : Nat := 8

/-- `POS_MAX` (R8). -/
def Config.posMax : Nat := 10

/-- The source's example, `F_DRV = 16000000` and `BAUD = 9600` (R9, R199), at the normative level.
DESIGN CHOICE (log entry 2): the spec leaves the parameters open, and `State.reset` needs one configuration;
`PERIOD_MAX = 65535` is the example value of spec/95_test_vectors.md section 2.2. -/
def Config.sourceExample : Config :=
  { lineId := 0, fDrv := 16000000, baud := 9600, periodMax := 65535, level := .untimed }

/-- What may be scheduled next (R10, R120, R154). -/
inductive Move where
  /-- The context `a` takes its next operation word; for TS this is the delivery of a TICK (R120 item 2). -/
  | issue (a : Issuer)
  /-- The turn of TS, with a TICK whose handler still runs when the next tick falls due (R104, R156, R185).
  DESIGN CHOICE (log entry 21): the step is atomic (R56), so what falls due inside it is part of the move. -/
  | tickOverrun
  /-- A tick falls due, untimed level (R120 item 1). -/
  | due
  /-- One driving-clock cycle passes, timed level (R11, R27). -/
  | cycle
  deriving DecidableEq, Repr, Inhabited

/-- The context whose turn the move is, if it is one's. -/
def turnOf : Move → Option Issuer
  | .issue a => some a
  | .tickOverrun => some .ts
  | .due => none
  | .cycle => none

/-- FREE VALUE (log entry 3): the `n`-th choice of the scheduler where the state's own schedule is used up.
R154: the model takes enabled steps in any order, and a claim must hold for every order.
It has no body, so nothing in Lean can say which move it gives. -/
opaque Config.freeMove : Nat → Move

end Sys2Proof
end

