-- ==== Sys2Proof/WellFormed.lean ====
section
/-! DEFINITION. Which configurations and which operations are well formed (spec/00_scope.md R8, R9; spec/30_encoding.md R72, R73). -/

namespace Sys2Proof

/-- A configuration is well formed only when `1 <= P <= PERIOD_MAX` (R9).
`F_DRV` and `BAUD` are positive (R8): where one of them is 0, `P` is 0 and the check refuses it. -/
def Config.wellFormed (c : Config) : Bool :=
  decide (1 ≤ c.period ∧ c.period ≤ c.periodMax)

/-- SEND's operand is a value in `0..255` (R73); no other operation has an operand.
The operand's type already says so, so no operation is ill formed: see `Instr.wellFormed_all` in Laws. -/
def Instr.wellFormed : Instr → Bool
  | .send data => decide (data.toNat ≤ 255)
  | .init => true
  | .tick => true
  | .tsStart => true
  | .tsStop => true
  | .ei => true
  | .di => true

end Sys2Proof
end

