-- ==== Sys2Proof/Decode.lean ====
section
/-! DEFINITION. Decoding, encoding and the issuer check (spec/30_encoding.md R71 to R77, spec/60_exceptions.md R158). -/

namespace Sys2Proof

/-- `OP`, bits 15..12 (R72). -/
def opField (w : OpWord) : BitVec 4 := w.extractLsb' 12 4

/-- `RSV`, bits 11..8, reserved and zero (R72). -/
def rsvField (w : OpWord) : BitVec 4 := w.extractLsb' 8 4

/-- `DATA` of format D, `ZERO` of format N: bits 7..0 (R72). -/
def dataField (w : OpWord) : Byte := w.extractLsb' 0 8

/-- Format N: the operation, where the `ZERO` field is zero (R72, R76). -/
def decodeFormatN (i : Instr) (w : OpWord) : Except RefusalReason Instr :=
  if dataField w = 0#8 then .ok i else .error .reservedBits

/-- Decoding, in the order of R77's pseudocode: the `RSV` test comes first. Total (R76). -/
def decode (w : OpWord) : Except RefusalReason Instr :=
  if rsvField w ≠ 0#4 then .error .reservedBits
  else if opField w = 0x1#4 then decodeFormatN .init w
  else if opField w = 0x2#4 then .ok (.send (dataField w))
  else if opField w = 0x3#4 then decodeFormatN .tick w
  else if opField w = 0x4#4 then decodeFormatN .tsStart w
  else if opField w = 0x5#4 then decodeFormatN .tsStop w
  else if opField w = 0x6#4 then decodeFormatN .ei w
  else if opField w = 0x7#4 then decodeFormatN .di w
  else .error .reservedOp

/-- The operation number `OP` of each row (R74). -/
def opNumber : Instr → BitVec 4
  | .init => 0x1#4
  | .send _ => 0x2#4
  | .tick => 0x3#4
  | .tsStart => 0x4#4
  | .tsStop => 0x5#4
  | .ei => 0x6#4
  | .di => 0x7#4

/-- The low byte of each row: SEND's data byte, zero in format N (R72, R73). -/
def operandByte : Instr → Byte
  | .send data => data
  | .init => 0#8
  | .tick => 0#8
  | .tsStart => 0#8
  | .tsStop => 0#8
  | .ei => 0#8
  | .di => 0#8

/-- The operation word: `OP`, `RSV = 0000`, then the low byte (R72). -/
def encode (i : Instr) : OpWord := (opNumber i ++ 0#4 ++ operandByte i : BitVec (4 + 4 + 8))

/-- One row of R74's opcode map as R74 gives it: a word `w` selects the row when `w AND mask = match`. -/
structure OpcodeRow where
  matchWord : OpWord
  mask : OpWord
  operation : Byte → Instr

/-- The opcode map of R74, row by row. It is not what `decode` is written from: that the two agree is a statement. -/
def opcodeMap : List OpcodeRow :=
  [ { matchWord := 0x1000#16, mask := 0xFFFF#16, operation := fun _ => .init },
    { matchWord := 0x2000#16, mask := 0xFF00#16, operation := fun b => .send b },
    { matchWord := 0x3000#16, mask := 0xFFFF#16, operation := fun _ => .tick },
    { matchWord := 0x4000#16, mask := 0xFFFF#16, operation := fun _ => .tsStart },
    { matchWord := 0x5000#16, mask := 0xFFFF#16, operation := fun _ => .tsStop },
    { matchWord := 0x6000#16, mask := 0xFFFF#16, operation := fun _ => .ei },
    { matchWord := 0x7000#16, mask := 0xFFFF#16, operation := fun _ => .di } ]

/-- The word selects the row (R74). -/
def OpcodeRow.selectedBy (r : OpcodeRow) (w : OpWord) : Bool := (w &&& r.mask) == r.matchWord

/-- The "issued by" column of R74; `none` for the two internal operations, which no agent issues (R75). -/
def issuerOf : Instr → Option Issuer
  | .init => some .fg
  | .send _ => some .fg
  | .tick => some .ts
  | .tsStart => none
  | .tsStop => none
  | .ei => some .host
  | .di => some .host

/-- INIT and SEND, the two operations that R158 refuses as `SECOND_CONTEXT` outside FG and HOST. -/
def isForegroundOp : Instr → Bool
  | .init => true
  | .send _ => true
  | .tick => false
  | .tsStart => false
  | .tsStop => false
  | .ei => false
  | .di => false

/-- A context that is neither FG nor HOST: a second foreground context or an interrupt context,
the tick source's own among them (R158). -/
def isSecondContext : Issuer → Bool
  | .fg => false
  | .host => false
  | .ts => true
  | .fg2 => true
  | .isr => true

/-- The issuer check, part of the decoding (R75): `none` where the context may issue the operation,
else the reason of R158. -/
def checkIssuer (a : Issuer) (i : Instr) : Option RefusalReason :=
  if issuerOf i = some a then none
  else if isForegroundOp i && isSecondContext a then some .secondContext
  else some .wrongIssuer

/-- The host's question: what the decoder reads from the word `w` of `nbits` bits.
An operation is exactly 16 bits (R71); bits from `nbits` on are zero. -/
def decodeTableWord (nbits w : Nat) : Option Instr :=
  (decode (BitVec.ofNat 16 (w % 2 ^ nbits))).toOption

end Sys2Proof
end

