-- ==== Sys2Proof/Machine/State.lean ====
section
/-! DEFINITION. The machine's state: every element of spec/10_state.md R20, the agents' own state (R10, R24, R151, R158) and the observation (R14). -/

namespace Sys2Proof.Machine

/-- Why a step has no next state although the configuration is well formed: no agent has an enabled step.
Both are raised by `scheduleStep` only, never by an operation's meaning. -/
inductive Fault where
  /-- The run is over (R160): FG has no operation left, `BUSY = 0`, nothing is faulted or refused,
  and no other agent has a step. Raised by the step. Safe: the machine has nothing left to do. -/
  | runOver
  /-- The state is stuck (R160, R188): no agent can step and the run is not over.
  Raised by the step. Safe: no claim of a final state can be proved from it. -/
  | stuck
  deriving DecidableEq, Repr

/-- Why a step has no meaning. -/
inductive Refusal where
  /-- An instruction without a meaning, by its mnemonic. No arm of `exec` raises it. Safe. -/
  | notModelled (mnemonic : String)
  /-- `BAD_CONFIG` (R9, R158): a configuration with `P = 0` or `P > PERIOD_MAX`; the run has no step.
  Raised by the step. Safe: a refused run satisfies no claim. -/
  | badConfig
  deriving DecidableEq, Repr

/-- One agent or context: the operation words it still has to issue, the next one first, and whether
a fault or a refusal has stopped it for good (R13, R24, R151, R158). -/
structure Agent where
  ops : List OpWord
  stopped : Bool
  deriving DecidableEq, Repr

/-- What one step shows outside (R14). -/
inductive Obs where
  /-- A step other than a TICK changed `LINE` or `LINE_DRIVEN`: the new level. -/
  | level (line : Bool)
  /-- A TICK step: `(LINE, BUSY)` as it stands after the step. -/
  | tick (line busy : Bool)
  deriving DecidableEq, Repr

/-- One entry of the trace, with its time: for a TICK the time of the TICK, else the time of the step (R14, log entry 18).
Only the timed level moves the clock, so at the untimed level every time is the same (R11). -/
structure TraceEntry where
  obs : Obs
  time : Nat
  deriving DecidableEq, Repr

/-- The state. The comment of each field names the rule that gives it; a level or a 1-bit flag is a Bool, true for 1. -/
structure State where
  /-- The configuration, fixed for the run (R8). -/
  cfg : Config
  /-- id 0, `BUSY` (R21). -/
  busy : Bool
  /-- id 1, `PENDING` (R22). -/
  pending : Byte
  /-- id 2, `POS` (R23). -/
  pos : Pos
  /-- id 3, `TS_CTRL` (R25). -/
  tsCtrl : TsCtrl
  /-- id 4, `TS_PERIOD` (R26). -/
  tsPeriod : Nat
  /-- id 5, `LINE` (R28). -/
  line : Bool
  /-- id 6, `LINE_DRIVEN` (R28). -/
  lineDriven : Bool
  /-- id 7, `INITED` (R29). -/
  inited : Bool
  /-- id 8, `GIE` (R30). -/
  gie : Bool
  /-- id 9, `TS_DUE` (R27). -/
  tsDue : Bool
  /-- id 10, `TS_COUNT`, timed level only (R27). -/
  tsCount : Nat
  /-- `FAULT`: the set of codes recorded, in rising order of code and without repeats (R31). -/
  fault : List FaultCode
  /-- The reasons for which operations have been refused; the run-wide mark is read through `refusalMark` (R13, R158). -/
  refusals : List RefusalReason
  /-- The observation trace, oldest entry first (R14). -/
  trace : List TraceEntry
  /-- The clock of the timed level, in driving-clock cycles (R11). Only differences of its values mean anything (log entry 20). -/
  now : Nat
  /-- FG (R10). -/
  fg : Agent
  /-- TS as an issuer of TICKs (R10, R120). -/
  ts : Agent
  /-- HOST (R10, R142). -/
  host : Agent
  /-- A second foreground context (R158, R189). -/
  fg2 : Agent
  /-- Another interrupt context of the host (R158, R188). -/
  isr : Agent
  /-- The moves scheduled next, the first one first (R154). The model's own. -/
  sched : List Move
  /-- How many free choices of the scheduler have been taken. The model's own. -/
  draws : Nat
  deriving DecidableEq, Repr

/-- An agent with nothing to issue. -/
def Agent.idle : Agent := { ops := [], stopped := false }

/-- What the spec leaves open after reset: the four elements of R181, "any value" each, and the start of the timed level's clock (R11). -/
structure PowerOn where
  pending : Byte
  line : Bool
  tsPeriod : Nat
  tsCount : Nat
  now : Nat
  deriving DecidableEq, Repr

/-- The values that the model names for them.
DESIGN CHOICE (log entry 4) for the elements of R181; DESIGN CHOICE (log entry 20) for the clock, which starts at 0. -/
def PowerOn.named : PowerOn := { pending := 0#8, line := false, tsPeriod := 1, tsCount := 0, now := 0 }

/-- The state after reset, for a configuration and for any values of what the spec leaves open (R20, R180, R181). -/
def State.resetWith (cfg : Config) (u : PowerOn) : State :=
  { cfg := cfg, busy := false, pending := u.pending, pos := 0#4, tsCtrl := 0b00#2, tsPeriod := u.tsPeriod,
    line := u.line, lineDriven := false, inited := false, gie := false, tsDue := false, tsCount := u.tsCount,
    fault := [], refusals := [], trace := [], now := u.now,
    fg := .idle, ts := .idle, host := .idle, fg2 := .idle, isr := .idle, sched := [], draws := 0 }

/-- The state after reset, with the source's example configuration (log entry 2) and the named values (log entries 4 and 20).
No agent has an operation yet (log entry 5). -/
def State.reset : State := State.resetWith Config.sourceExample PowerOn.named

end Sys2Proof.Machine
end

