-- ==== Sys2Proof/Machine/Ops.lean ====
section
/-! DEFINITION. The named operations over the state that the meanings share: agents, the fault and refusal records, the line and the trace (spec/00_scope.md R13, R14; spec/60_exceptions.md R151, R158). -/

namespace Sys2Proof.Machine

/-- Add an element to a set held as a list that rises by `rank` and has no repeats. -/
def insertRanked {α : Type} (rank : α → Nat) (a : α) : List α → List α
  | [] => [a]
  | b :: rest =>
    if rank a < rank b then a :: b :: rest
    else if rank a = rank b then b :: rest
    else b :: insertRanked rank a rest

/-- The agent's own state (R10, R158). -/
def agentOf (a : Issuer) (s : State) : Agent :=
  match a with
  | .fg => s.fg
  | .ts => s.ts
  | .host => s.host
  | .fg2 => s.fg2
  | .isr => s.isr

/-- Put an agent's own state. -/
def setAgent (a : Issuer) (g : Agent) (s : State) : State :=
  match a with
  | .fg => { s with fg := g }
  | .ts => { s with ts := g }
  | .host => { s with host := g }
  | .fg2 => { s with fg2 := g }
  | .isr => { s with isr := g }

/-- The agent moves to its next operation (R24, R102). -/
def advance (a : Issuer) (s : State) : State :=
  setAgent a { agentOf a s with ops := (agentOf a s).ops.tail } s

/-- The agent takes no further step (R151, R158). -/
def stopAgent (a : Issuer) (s : State) : State :=
  setAgent a { agentOf a s with stopped := true } s

/-- `hold`: the operation stays at the head of its agent, and nothing is written (R13). -/
def hold (s : State) : State := s

/-- `raise Fault(code)`: the ONE way a fault is taken (R13, R151).
The code is recorded, no other state element is written, and the faulting agent stops. -/
def raiseFault (a : Issuer) (c : FaultCode) (s : State) : State :=
  stopAgent a { s with fault := insertRanked FaultCode.code c s.fault }

/-- `refuse(reason)`: the run-wide mark is set with its reason, no state element is written,
and the issuing agent stops for good (R13, R76, R158). -/
def refuse (a : Issuer) (r : RefusalReason) (s : State) : State :=
  stopAgent a { s with refusals := insertRanked RefusalReason.rank r s.refusals }

/-- The reasons of the run-wide mark: those recorded, and `BAD_CONFIG` where the configuration is not well formed (R9, R158). -/
def refusalReasons (s : State) : List RefusalReason :=
  if s.cfg.wellFormed then s.refusals else insertRanked RefusalReason.rank .badConfig s.refusals

/-- The refusal mark: set while it has a reason (R158, R160). -/
def refusalMark (s : State) : Bool := !(refusalReasons s).isEmpty

/-- `line_drive(v)` (R13). -/
def lineDrive (v : Bool) (s : State) : State := { s with line := v, lineDriven := true }

/-- Append one observation to the trace, with its time (R14). -/
def record (o : Obs) (time : Nat) (s : State) : State :=
  { s with trace := s.trace ++ [{ obs := o, time := time }] }

/-- R14 for a step that is no TICK: append the new level where `LINE` or `LINE_DRIVEN` changed. -/
def recordLineChange (before after : State) : State :=
  if after.line = before.line ∧ after.lineDriven = before.lineDriven then after
  else record (.level after.line) after.now after

end Sys2Proof.Machine
end

