-- ==== Sys2Proof/Machine/Flags.lean ====
section
/-! DEFINITION. The block's one status flag and the two fields of `TS_CTRL` (spec/10_state.md R21, R25). There are no condition codes (R21). -/

namespace Sys2Proof.Machine

/-- `BUSY <- 1`, by the SEND commit (R21). -/
def setBusy (s : State) : State := { s with busy := true }

/-- `BUSY <- 0`, by the TICK at position 10 (R21). -/
def clearBusy (s : State) : State := { s with busy := false }

/-- `TS_CTRL.IE`, bit 0: a due tick may be delivered (R25). -/
def tickInterruptEnabled (s : State) : Bool := s.tsCtrl.getLsbD 0

/-- `TS_CTRL.CS`, bit 1: the driving clock is selected (R25). -/
def drivingClockSelected (s : State) : Bool := s.tsCtrl.getLsbD 1

/-- The running value of `TS_CTRL`: `IE = 1`, `CS = 1` (R25). -/
def tsCtrlRunning : TsCtrl := 0b11#2

/-- The stopped value of `TS_CTRL`: `IE = 0`, `CS = 0` (R25). -/
def tsCtrlStopped : TsCtrl := 0b00#2

/-- The internal action TS_START: both fields are written together; `TS_COUNT` and `TS_DUE` stay (R103). -/
def tsStart (s : State) : State := { s with tsCtrl := tsCtrlRunning }

/-- The internal action TS_STOP: both fields are written together; `TS_COUNT` and `TS_DUE` stay (R104). -/
def tsStop (s : State) : State := { s with tsCtrl := tsCtrlStopped }

end Sys2Proof.Machine
end

