-- ==== Sys2Proof/Machine/Operands.lean ====
section
/-! DEFINITION. The operand forms: SEND's data byte, latched whole, and the data bit that TICK reads through `POS` (spec/30_encoding.md R73; spec/20_memory.md R53, R55; spec/41_bit_framer.md R123). -/

namespace Sys2Proof.Machine

/-- SEND's operand `b = DATA` goes to `PENDING` as it is, all 8 bits at once (R55, R73). -/
def latchPending (b : Byte) (s : State) : State := { s with pending := b }

/-- Position `k` in `1..8` drives bit `k-1` of `PENDING`: least significant bit first (R53, R123). -/
def pendingBit (k : Pos) (p : Byte) : Bool := p.getLsbD (k.toNat - 1)

/-- The position after `k`, for `k` below 10 (R24). -/
def nextPos (k : Pos) : Pos := k + 1#4

end Sys2Proof.Machine
end

