-- ==== Sys2Proof/Machine/TransmitterControl.lean ====
section
/-! DEFINITION. The meanings of INIT, SEND, TS_START and TS_STOP (spec/40_transmitter_control.md R100 to R106). -/

namespace Sys2Proof.Machine

/-- INIT without a fault (R100): one atomic step that drives the line to its idle level, programs the
period and leaves the tick source stopped. `BUSY`, `POS`, `PENDING`, `TS_DUE` and `TS_COUNT` are not written. -/
def initTransmitter (s : State) : State :=
  advance .fg (recordLineChange s (tsStop
    { lineDrive true s with tsPeriod := s.cfg.period, inited := true }))

/-- INIT (R100): the check for `INIT_TWICE` comes before the one for `INIT_UNMASKED`. -/
def execInit (s : State) : Host.Outcome State Fault Refusal :=
  if s.inited then .next (raiseFault .fg .initTwice s)
  else if s.gie then .next (raiseFault .fg .initUnmasked s)
  else .next (initTransmitter s)

/-- SEND, the commit (R102): `BUSY`, `PENDING` and the start of the tick source, then FG moves on.
`LINE` and `POS` are not written. -/
def sendCommit (b : Byte) (s : State) : State :=
  advance .fg (tsStart (latchPending b (setBusy s)))

/-- SEND, the wait step and, where it finds `BUSY = 0`, the commit in the same step (R101, R102). -/
def execSend (b : Byte) (s : State) : Host.Outcome State Fault Refusal :=
  if !s.inited then .next (raiseFault .fg .sendBeforeInit s)
  else if s.busy then .next (hold s)
  else .next (sendCommit b s)

/-- TS_START (R103). It runs inside a SEND commit; the issuer check of the step keeps every agent from issuing it alone (R75). -/
def execTsStart (s : State) : Host.Outcome State Fault Refusal := .next (tsStart s)

/-- TS_STOP (R104). It runs inside a TICK at position 10; the issuer check of the step keeps every agent from issuing it alone (R75). -/
def execTsStop (s : State) : Host.Outcome State Fault Refusal := .next (tsStop s)

end Sys2Proof.Machine
end

