-- ==== Sys2Proof/Machine/BitFramer.lean ====
section
/-! DEFINITION. The tick source's own steps and the meaning of TICK (spec/41_bit_framer.md R120 to R126; spec/10_state.md R27; spec/70_reset_and_hazards.md R195). -/

namespace Sys2Proof.Machine

/-- A tick can fall due at the untimed level: `CS = 1` and `TS_DUE = 0` (R120 item 1). -/
def dueEnabled (s : State) : Bool :=
  decide (s.cfg.level = .untimed) && !s.ts.stopped && drivingClockSelected s && !s.tsDue

/-- A tick falls due (R120 item 1). -/
def tickFallsDue (s : State) : State := { s with tsDue := true }

/-- The tick source counts at the timed level: `CS = 1` (R27). -/
def counting (s : State) : Bool :=
  decide (s.cfg.level = .timed) && !s.ts.stopped && drivingClockSelected s

/-- The count that this cycle completes reaches the period (R27).
A count above its type's range `0..TS_PERIOD-1` counts as having reached it (log entry 8). -/
def periodCompletes (s : State) : Bool := decide (s.tsPeriod ≤ s.tsCount + 1)

/-- One driving-clock cycle of a counting tick source (R27).
At the end of a period a tick falls due and the count goes back to zero;
a tick that falls due while `TS_DUE = 1` is lost, since `TS_DUE` holds one. -/
def countCycle (s : State) : State :=
  if periodCompletes s then { s with tsCount := 0, tsDue := true }
  else { s with tsCount := s.tsCount + 1 }

/-- One driving-clock cycle of the timed level: the clock moves, and `TS_COUNT` counts or holds its value (R11, R27). -/
def clockCycle (s : State) : State :=
  if counting s then countCycle { s with now := s.now + 1 } else { s with now := s.now + 1 }

/-- `n` driving-clock cycles. -/
def clockCycles : Nat → State → State
  | 0, s => s
  | n + 1, s => clockCycles n (clockCycle s)

/-- The delay `L` from a SEND commit in this state to the first TICK falling due, in driving-clock cycles (R195).
A count above its range, which R181 allows until a period first completes, is where R195 gives no `L`: there the next cycle ends the
period (`periodCompletes`), so `L` is 1 (DESIGN CHOICE, log entry 8). -/
def firstTickDelay (s : State) : Nat := if s.tsDue then 0 else max 1 (s.tsPeriod - s.tsCount)

/-- A TICK can be delivered: `TS_DUE = 1`, `TS_CTRL.IE = 1` and `GIE = 1` (R120 item 2). -/
def deliveryEnabled (s : State) : Bool := s.tsDue && tickInterruptEnabled s && s.gie

/-- Delivery clears `TS_DUE` (R120 item 2). -/
def takeDue (s : State) : State := { s with tsDue := false }

/-- The time of the TICK: when a tick last fell due, `TS_COUNT` cycles ago (R14, R195).
How much later it is delivered is not part of it, and of the ticks that fell due while one was undelivered it is the last,
so every symbol lasts whole periods (R195, R196; DEDUCED, log entry 18). The untimed level reads no time (R11). -/
def tickTime (s : State) : Nat :=
  match s.cfg.level with
  | .untimed => s.now
  | .timed => s.now - s.tsCount

/-- Every TICK step appends the pair `(LINE, BUSY)` as it stands after the step, with the time of the TICK (R14), and TS has
issued its TICK. -/
def finishTick (s : State) : State := advance .ts (record (.tick s.line s.busy) (tickTime s) s)

/-- Position 0: the start bit (R122). -/
def tickStartBit (s : State) : State := { s with line := false, pos := nextPos s.pos }

/-- Positions 1 to 8: a data bit (R123). -/
def tickDataBit (s : State) : State :=
  { s with line := pendingBit s.pos s.pending, pos := nextPos s.pos }

/-- Position 9: the stop bit (R124). -/
def tickStopBit (s : State) : State := { s with line := true, pos := nextPos s.pos }

/-- Position 10: finalize. `LINE` is not written (R125). -/
def tickFinalize (s : State) : State := tsStop { clearBusy s with pos := 0#4 }

/-- The delivered TICK: `TS_DUE` is cleared and the Bit-Framer runs once, by `POS` (R120, R121).
A tick that falls due inside this one step is a matter of the move that is taken: see `overrun` (log entry 21).
Outside `0..10` it raises `POS_RANGE` and writes nothing, `TS_DUE` neither (R126, R13). -/
def deliverTick (s : State) : State :=
  if s.pos = 0#4 then finishTick (tickStartBit (takeDue s))
  else if s.pos ≤ 8#4 then finishTick (tickDataBit (takeDue s))
  else if s.pos = 9#4 then finishTick (tickStopBit (takeDue s))
  else if s.pos = 10#4 then finishTick (tickFinalize (takeDue s))
  else raiseFault .ts .posRange s

/-- A tick falls due before the handler has ended, and it is kept due (R104, R120).
The counter goes back to zero when a tick falls due (R27); the handler takes no time, so there the stop finds it (log entry 21). -/
def keepTickDue (s : State) : State :=
  { s with tsDue := true, tsCount := if s.cfg.level = .timed then 0 else s.tsCount }

/-- The handler of the TICK that led from `before` to `after` was still running when the next tick fell due.
Only the TICK at position 10 stops the tick source, so only there is this more than a tick that falls due next (R104, R156). -/
def overrun (before after : State) : State :=
  if before.pos = 10#4 ∧ after.pos = 0#4 then keepTickDue after else after

/-- TICK (R120 to R126): delivered where the delivery is enabled; else TS has no enabled step and holds (R13, R120). -/
def execTick (s : State) : Host.Outcome State Fault Refusal :=
  if deliveryEnabled s then .next (deliverTick s) else .next (hold s)

end Sys2Proof.Machine
end

