-- ==== Sys2Proof/Machine/HostEnvironment.lean ====
section
/-! DEFINITION. The meanings of EI and DI (spec/42_host_environment.md R140, R141). -/

namespace Sys2Proof.Machine

/-- EI (R140): `GIE <- 1`, and HOST moves to its next operation. -/
def execEi (s : State) : Host.Outcome State Fault Refusal :=
  .next (advance .host { s with gie := true })

/-- DI (R141): `GIE <- 0`, and HOST moves to its next operation. -/
def execDi (s : State) : Host.Outcome State Fault Refusal :=
  .next (advance .host { s with gie := false })

end Sys2Proof.Machine
end

