-- ==== Sys2Proof/Machine/Dispatch.lean ====
section
/-! DEFINITION. One arm per row of spec/opcode_table.json: the operation's meaning. Who may issue it is checked by the step, not here (spec/30_encoding.md R75). -/

namespace Sys2Proof.Machine

def exec (i : Instr) (s : State) : Host.Outcome State Fault Refusal :=
  match i with
  | .init => Sys2Proof.Machine.execInit s
  | .send data => Sys2Proof.Machine.execSend data s
  | .tick => Sys2Proof.Machine.execTick s
  | .tsStart => Sys2Proof.Machine.execTsStart s
  | .tsStop => Sys2Proof.Machine.execTsStop s
  | .ei => Sys2Proof.Machine.execEi s
  | .di => Sys2Proof.Machine.execDi s

end Sys2Proof.Machine
end

