-- ==== Sys2Proof/Machine/Schedule.lean ====
section
/-! DEFINITION. How one step is chosen and taken: the agents, their next words, what they can do now, and the interleaving (spec/00_scope.md R10, R13; spec/30_encoding.md R75, R76; spec/41_bit_framer.md R120; spec/60_exceptions.md R154, R158, R160). -/

namespace Sys2Proof.Machine

/-- The word of TICK, which the tick source issues by itself for as long as ticks can be delivered (R120). -/
def tickWord : OpWord := 0x3000#16

/-- The word the agent issues next.
TS issues TICK without end where it has been given no words of its own (R120, log entry 6). -/
def nextWord (a : Issuer) (s : State) : Option OpWord :=
  match (agentOf a s).ops with
  | w :: _ => some w
  | [] => if a = .ts then some tickWord else none

/-- The operation holds now: the agent has no enabled step (R13).
SEND holds while `BUSY = 1` after INIT (R101), and a TICK that cannot be delivered holds (R120). -/
def holdsNow (i : Instr) (s : State) : Bool :=
  match i with
  | .init => false
  | .send _ => s.inited && s.busy
  | .tick => !deliveryEnabled s
  | .tsStart => false
  | .tsStop => false
  | .ei => false
  | .di => false

/-- A word that is refused, or whose operation does not hold now, gives its agent a step. -/
def wordEnabled (a : Issuer) (w : OpWord) (s : State) : Bool :=
  match decode w with
  | .error _ => true
  | .ok i => (checkIssuer a i).isSome || !holdsNow i s

/-- The agent can take a step now: it is not stopped, and its next word gives it one. -/
def issueEnabled (a : Issuer) (s : State) : Bool :=
  !(agentOf a s).stopped &&
    match nextWord a s with
    | some w => wordEnabled a w s
    | none => false

/-- Some agent can step: FG, HOST, another context, a TICK delivery, a tick falling due, or a counting tick source (R10, R120, R160). -/
def someStepEnabled (s : State) : Bool :=
  issueEnabled .fg s || issueEnabled .ts s || issueEnabled .host s || issueEnabled .fg2 s ||
    issueEnabled .isr s || dueEnabled s || counting s

/-- The end of a run (R160): FG has no operation left, `BUSY = 0`, `FAULT` is empty and the refusal mark is not set. -/
def runIsOver (s : State) : Bool :=
  s.fg.ops.isEmpty && !s.busy && s.fault.isEmpty && !refusalMark s

/-- The agent issues one word: it is decoded, the issuer is checked, and the operation runs (R75, R76, R154).
Refusals at decoding come before any fault of the operation (R154). -/
def issueWord (a : Issuer) (w : OpWord) (s : State) : Host.Outcome State Fault Refusal :=
  match decode w with
  | .error r => .next (refuse a r s)
  | .ok i =>
    match checkIssuer a i with
    | some r => .next (refuse a r s)
    | none => exec i s

/-- The agent's turn. An agent that is stopped or has no word takes no step, and nothing changes. -/
def issueStep (a : Issuer) (s : State) : Host.Outcome State Fault Refusal :=
  if (agentOf a s).stopped then .next s
  else
    match nextWord a s with
    | none => .next s
    | some w => issueWord a w s

/-- The turn of TS with a TICK whose handler overruns (R104, R185). -/
def overrunStep (s : State) : Host.Outcome State Fault Refusal :=
  match issueStep .ts s with
  | .next t => .next (overrun s t)
  | .fault f => .fault f
  | .refused r => .refused r

/-- One scheduled move. A move whose agent has no enabled step changes nothing (R13). -/
def runMove (m : Move) (s : State) : Host.Outcome State Fault Refusal :=
  match m with
  | .issue a => issueStep a s
  | .tickOverrun => overrunStep s
  | .due => .next (if dueEnabled s then tickFallsDue s else s)
  | .cycle => .next (if s.cfg.level = .timed then clockCycle s else s)

/-- The move scheduled next: the head of the schedule, or the scheduler's free choice (R154, log entry 3). -/
def scheduledMove (s : State) : Move :=
  match s.sched with
  | m :: _ => m
  | [] => Config.freeMove s.draws

/-- The state once that move is taken off the schedule. -/
def takeMove (s : State) : State :=
  match s.sched with
  | _ :: rest => { s with sched := rest }
  | [] => { s with draws := s.draws + 1 }

/-- One step of the machine.
A configuration that is not well formed has no step (R9, R158).
Where no agent can step, the run is over or stuck (R160).
Else the scheduled move is taken, as one atomic step (R56, R58). -/
def scheduleStep (s : State) : Host.Outcome State Fault Refusal :=
  if !s.cfg.wellFormed then .refused .badConfig
  else if !someStepEnabled s then .fault (if runIsOver s then .runOver else .stuck)
  else runMove (scheduledMove s) (takeMove s)

/-- The context that a word's row in R74 names, FG for a word that no agent may issue or that decodes to nothing. -/
def homeOf (w : OpWord) : Issuer :=
  match decode w with
  | .error _ => .fg
  | .ok i => (issuerOf i).getD .fg

/-- What a delivery needs: `TS_DUE = 1`, `TS_CTRL = 0b11` and `GIE = 1` (R25, R120). -/
def withDeliveryEnabled (s : State) : State :=
  { s with tsDue := true, tsCtrl := tsCtrlRunning, gie := true }

/-- Put a word first in the list of its own context, let that context step, and schedule it next.
For TICK, also what its delivery needs (log entry 5). -/
def placeWord (w : OpWord) (s : State) : State :=
  let a := homeOf w
  let placed := setAgent a { ops := w :: (agentOf a s).ops, stopped := false }
    { s with sched := .issue a :: s.sched }
  if decode w = .ok .tick then withDeliveryEnabled placed else placed

end Sys2Proof.Machine
end

