-- ==== Sys2Proof/Machine/Step.lean ====
section
/-! DEFINITION. The step, and the host's way of placing one instruction. Both only call what stands in Machine/Schedule.lean. -/

namespace Sys2Proof.Machine

/-- One step of the machine. -/
def step (s : State) : Host.Outcome State Fault Refusal := scheduleStep s

/-- `s` with the word `w` as the operation that the next step takes (log entry 5). -/
def State.withFetchWord (s : State) (nbits w : Nat) : State :=
  placeWord (BitVec.ofNat 16 (w % 2 ^ nbits)) s

end Sys2Proof.Machine
end

