-- ==== Sys2Proof/Machine/Assembler.lean ====
section
/-! DEFINITION. The assembler syntax of spec/30_encoding.md R78 and R79, and how an assembled program is given to the agents. A line is a list of characters. -/

namespace Sys2Proof.Machine

/-- Why a line does not assemble (R78, R79). -/
inductive AsmError where
  /-- The agent before the colon is none of FG, TS and HOST. -/
  | unknownAgent
  /-- The mnemonic is none of the seven. -/
  | unknownMnemonic
  /-- SEND without a byte, a byte outside `0..255`, or an operand on another operation. -/
  | badOperand
  /-- `TICK*n` with `n = 0` or no number, on another operation, or under an agent other than TS. -/
  | badCount
  deriving DecidableEq, Repr

/-- A line of a program: who issues which word. -/
abbrev ProgramLine := Issuer × OpWord

/-- White space inside a line. -/
def isBlank (c : Char) : Bool := c == ' ' || c == '\t' || c == '\r'

/-- A character of an agent's name or a mnemonic. -/
def isNameChar (c : Char) : Bool := c.isAlpha || c == '_'

/-- The text without the white space at both ends. -/
def trimBlank (cs : List Char) : List Char :=
  ((cs.dropWhile isBlank).reverse.dropWhile isBlank).reverse

/-- `;` starts a comment, except as the character of a one-character literal (R78). -/
def stripComment : List Char → List Char
  | [] => []
  | '\'' :: c :: '\'' :: rest => '\'' :: c :: '\'' :: stripComment rest
  | c :: rest => if c = ';' then [] else c :: stripComment rest

/-- The agents a line may name (R78). -/
def agentNamed (cs : List Char) : Option Issuer :=
  if cs = ['F', 'G'] then some .fg
  else if cs = ['T', 'S'] then some .ts
  else if cs = ['H', 'O', 'S', 'T'] then some .host
  else none

/-- The value of a digit, up to 15. -/
def digitValue (c : Char) : Option Nat :=
  if c.isDigit then some (c.toNat - '0'.toNat)
  else if 'a' ≤ c ∧ c ≤ 'f' then some (c.toNat - 'a'.toNat + 10)
  else if 'A' ≤ c ∧ c ≤ 'F' then some (c.toNat - 'A'.toNat + 10)
  else none

/-- Read digits of a base onto the number read so far. -/
def readDigits (base : Nat) : List Char → Nat → Option Nat
  | [], n => some n
  | c :: rest, n =>
    match digitValue c with
    | some d => if d < base then readDigits base rest (n * base + d) else none
    | none => none

/-- A number that has at least one digit. -/
def readNumber (base : Nat) (cs : List Char) : Option Nat :=
  if cs.isEmpty then none else readDigits base cs 0

/-- SEND's operand: hexadecimal, decimal, or one quoted character, which stands for its ASCII code (R78).
A number may have any count of digits from one on, leading zeros among them, and a hexadecimal digit either case; the `x` is small
(DESIGN CHOICE, log entry 9). -/
def readOperand (cs : List Char) : Option Nat :=
  match cs with
  | ['\'', c, '\''] => if c.toNat < 128 then some c.toNat else none
  | '0' :: 'x' :: digits => readNumber 16 digits
  | digits => readNumber 10 digits

/-- An operation without an operand. -/
def plainOp (i : Instr) (operand : List Char) : Except AsmError Instr :=
  if operand.isEmpty then .ok i else .error .badOperand

/-- SEND with its byte; an operand outside `0..255` is an assembly error (R78). -/
def sendOp (operand : List Char) : Except AsmError Instr :=
  match readOperand operand with
  | some n => if n ≤ 255 then .ok (.send (BitVec.ofNat 8 n)) else .error .badOperand
  | none => .error .badOperand

/-- The mnemonic, its case ignored, with its operand (R78). -/
def assembleOp (mnemonic operand : List Char) : Except AsmError Instr :=
  let m := mnemonic.map Char.toUpper
  if m = ['I', 'N', 'I', 'T'] then plainOp .init operand
  else if m = ['S', 'E', 'N', 'D'] then sendOp operand
  else if m = ['T', 'I', 'C', 'K'] then plainOp .tick operand
  else if m = ['T', 'S', '_', 'S', 'T', 'A', 'R', 'T'] then plainOp .tsStart operand
  else if m = ['T', 'S', '_', 'S', 'T', 'O', 'P'] then plainOp .tsStop operand
  else if m = ['E', 'I'] then plainOp .ei operand
  else if m = ['D', 'I'] then plainOp .di operand
  else .error .unknownMnemonic

/-- The agent of a line: the one it names, else its row's issuer in R74 (R78).
R74 gives TS_START and TS_STOP no agent; such a line goes to FG, and is refused there (R79, log entry 9). -/
def lineIssuer (named : Option Issuer) (i : Instr) : Issuer :=
  match named with
  | some a => a
  | none => (issuerOf i).getD .fg

/-- `TICK*n` expands to `n` lines `TS: TICK` (R79). -/
def repeatTick (named : Option Issuer) (mnemonic count : List Char) : Except AsmError (List ProgramLine) :=
  match assembleOp mnemonic [], readNumber 10 count with
  | .ok .tick, some n =>
    if n = 0 ∨ lineIssuer named .tick ≠ .ts then .error .badCount
    else .ok (List.replicate n (.ts, encode .tick))
  | _, _ => .error .badCount

/-- `MNEMONIC [OPERAND]` or `TICK*n`, after the agent.
The mnemonic ends at the first character that cannot belong to one, so no white space need part it from its operand or from `*`
(DESIGN CHOICE, log entry 9). -/
def assembleBody (named : Option Issuer) (cs : List Char) : Except AsmError (List ProgramLine) :=
  let mnemonic := cs.takeWhile isNameChar
  match trimBlank (cs.dropWhile isNameChar) with
  | '*' :: count => repeatTick named mnemonic (trimBlank count)
  | operand =>
    match assembleOp mnemonic operand with
    | .ok i => .ok [(lineIssuer named i, encode i)]
    | .error e => .error e

/-- One line: `[AGENT:] MNEMONIC [OPERAND]`, or nothing (R78). -/
def assembleLine (line : List Char) : Except AsmError (List ProgramLine) :=
  let cs := trimBlank (stripComment line)
  if cs.isEmpty then .ok []
  else
    match (cs.dropWhile isNameChar).dropWhile isBlank with
    | ':' :: body =>
      match agentNamed (cs.takeWhile isNameChar) with
      | some a => assembleBody (some a) (trimBlank body)
      | none => .error .unknownAgent
    | _ => assembleBody none cs

/-- The lines of a program, in order. -/
def assemble : List (List Char) → Except AsmError (List ProgramLine)
  | [] => .ok []
  | line :: rest =>
    match assembleLine line, assemble rest with
    | .ok here, .ok there => .ok (here ++ there)
    | .error e, _ => .error e
    | .ok _, .error e => .error e

/-- Give each word of a program to the agent that issues it, after the words it already has (log entry 5). -/
def loadProgram : List ProgramLine → State → State
  | [], s => s
  | (a, w) :: rest, s =>
    loadProgram rest (setAgent a { agentOf a s with ops := (agentOf a s).ops ++ [w] } s)

/-- The order in which a program's lines stand, as moves: a line of TS is one tick falling due
followed by its delivery (spec/95_test_vectors.md section 3). It is one of the orders the program may run in (R154). -/
def listedOrder : List ProgramLine → List Move
  | [] => []
  | (.ts, _) :: rest => .due :: .issue .ts :: listedOrder rest
  | (a, _) :: rest => .issue a :: listedOrder rest

end Sys2Proof.Machine
end

