-- ==== Sys2Proof/Safety.lean ====
section
/-! DEFINITION. What the spec says of whole runs: the frame's symbols (spec/41_bit_framer.md R127), the coherence of a reachable state (spec/10_state.md R33), the end of a run (spec/60_exceptions.md R160), and the premise of the timed rules (spec/41_bit_framer.md R130). -/

namespace Sys2Proof.Safety

open Sys2Proof.Machine

/-- The `(LINE, BUSY)` pairs that the 11 TICKs of the frame of `b` append, in order (R127). -/
def frameObs (b : Byte) : List Obs :=
  [ .tick false true,
    .tick (b.getLsbD 0) true, .tick (b.getLsbD 1) true, .tick (b.getLsbD 2) true, .tick (b.getLsbD 3) true,
    .tick (b.getLsbD 4) true, .tick (b.getLsbD 5) true, .tick (b.getLsbD 6) true, .tick (b.getLsbD 7) true,
    .tick true true,
    .tick true false ]

/-- The line levels of the same TICKs. -/
def frameLevels (b : Byte) : List Bool :=
  [ false, b.getLsbD 0, b.getLsbD 1, b.getLsbD 2, b.getLsbD 3, b.getLsbD 4, b.getLsbD 5, b.getLsbD 6,
    b.getLsbD 7, true, true ]

/-- The level of the line while a frame of `b` waits at position `k`: idle before the start bit,
then the level that the last TICK drove (R122 to R124). -/
def lineAt (b : Byte) (k : Nat) : Bool :=
  match k with
  | 0 => true
  | j + 1 => (frameLevels b).getD j true

/-- The observations of a trace, without their times (R14). -/
def obsOf (s : State) : List Obs := s.trace.map TraceEntry.obs

/-- The coherence of R33, items 1 to 4 and 6, with what its proof sketch uses besides: the level of the
line inside a frame, the period that INIT has programmed (R26), and what a tick kept due finds in the counter (R195). -/
structure Coherent (s : State) : Prop where
  /-- R33 item 1. -/
  posRange : s.pos.toNat ≤ Config.posMax
  /-- R33 item 2. -/
  idlePos : s.busy = false → s.pos = 0#4
  /-- R33 item 3. -/
  runningIffBusy : s.inited = true → (s.busy = true ↔ s.tsCtrl = 0b11#2)
  /-- R33 item 3. -/
  stoppedIffIdle : s.inited = true → (s.busy = false ↔ s.tsCtrl = 0b00#2)
  /-- R33 item 4. -/
  driven : s.inited = true → s.lineDriven = true
  /-- R33 item 4: between frames the line is high. -/
  idleHigh : s.inited = true → s.busy = false → s.line = true
  /-- Inside a frame the line has the level of the last symbol driven. -/
  frameLevel : s.inited = true → s.busy = true → s.line = lineAt s.pending s.pos.toNat
  /-- R26: `TS_PERIOD` holds `P` from INIT on. -/
  period : s.inited = true → s.tsPeriod = s.cfg.period
  /-- R33 item 6. -/
  beforeInit : s.inited = false →
    s.busy = false ∧ s.pos = 0#4 ∧ s.tsCtrl = 0b00#2 ∧ s.tsDue = false
  /-- At the timed level a tick kept due from the frame before comes with a count of zero (R27, R195). -/
  keptDue : s.cfg.level = .timed → s.busy = false → s.tsDue = true → s.tsCount = 0

/-- R33 item 5, seen in the trace: inside a frame the last `POS` entries of the trace are the first
`POS` symbols of the frame of `PENDING`. -/
def FrameSoFar (s : State) : Prop :=
  s.busy = true → ∃ earlier, obsOf s = earlier ++ (frameObs s.pending).take s.pos.toNat

/-- `FAULT` and the reasons of the refusal mark are sets, each in its one canonical form. -/
structure CanonicalSets (s : State) : Prop where
  fault : s.fault.Pairwise (fun a b => a.code < b.code)
  refusals : s.refusals.Pairwise (fun a b => a.rank < b.rank)

/-- The end of a run (R160). -/
def Final (s : State) : Prop :=
  s.fg.ops = [] ∧ s.busy = false ∧ s.fault = [] ∧ refusalMark s = false

/-- `HANDLER_FITS` in one state (R130): a cycle taken next does not complete a period while a tick is undelivered.
It asks nothing of the move `tickOverrun`, so a tick kept due at the end of a frame is within it (R185, R197; DESIGN CHOICE, log entry 22). -/
def HandlerFits (s : State) : Prop := scheduledMove s = .cycle → s.tsDue = true → periodCompletes s = false

/-- The frame in flight is on time: TICK 0 falls due at the time `first`, and TICK number `POS` falls due `POS` periods later (R195). -/
structure OnTime (first : Nat) (s : State) : Prop where
  count : s.tsCount < s.tsPeriod
  /-- The tick that is due fell due `TS_COUNT` cycles ago. -/
  due : s.tsDue = true → s.now = first + s.pos.toNat * s.tsPeriod + s.tsCount
  /-- The next tick is the rest of the period away. -/
  waiting : s.tsDue = false → s.now + s.tsPeriod = first + s.pos.toNat * s.tsPeriod + s.tsCount

/-- TS is not stopped, and has no words but TICK (R120). -/
structure TicksOnly (s : State) : Prop where
  live : s.ts.stopped = false
  words : ∀ w ∈ s.ts.ops, w = tickWord

/-- SEND can commit at the timed level: the state before the commit of R195, with the counter in its range (R20). -/
structure ReadyToSend (s : State) : Prop where
  coherent : Coherent s
  inited : s.inited = true
  idle : s.busy = false
  timed : s.cfg.level = .timed
  count : s.tsCount < s.tsPeriod
  ticks : TicksOnly s

/-- SEND has just committed, and none of its TICKs has been delivered yet (R102). -/
structure Committed (b : Byte) (s : State) : Prop where
  coherent : Coherent s
  inited : s.inited = true
  busy : s.busy = true
  pos : s.pos = 0#4
  pending : s.pending = b

/-- The block's own elements of R20, `FAULT` apart, with the trace: what a fault and a refusal leave unchanged (R151, R158). -/
structure SameBlock (s t : State) : Prop where
  busy : t.busy = s.busy
  pending : t.pending = s.pending
  pos : t.pos = s.pos
  tsCtrl : t.tsCtrl = s.tsCtrl
  tsPeriod : t.tsPeriod = s.tsPeriod
  line : t.line = s.line
  lineDriven : t.lineDriven = s.lineDriven
  inited : t.inited = s.inited
  gie : t.gie = s.gie
  tsDue : t.tsDue = s.tsDue
  tsCount : t.tsCount = s.tsCount
  trace : t.trace = s.trace
  now : t.now = s.now
  cfg : t.cfg = s.cfg

/-- Every agent other than `a` is unchanged. -/
def SameAgentsBut (a : Issuer) (s t : State) : Prop :=
  ∀ b : Issuer, b ≠ a → agentOf b t = agentOf b s

/-- The scheduler's own fields are unchanged. -/
def SameSchedule (s t : State) : Prop := t.sched = s.sched ∧ t.draws = s.draws

/-- Who may issue an operation (R75): INIT and SEND come from FG, TICK from TS, EI and DI from HOST, and
no agent issues TS_START or TS_STOP. -/
def MayIssue (a : Issuer) (i : Instr) : Prop :=
  match i with
  | .init => a = .fg
  | .send _ => a = .fg
  | .tick => a = .ts
  | .tsStart => False
  | .tsStop => False
  | .ei => a = .host
  | .di => a = .host

/-- The reason for which an operation is refused to a context that may not issue it: INIT and SEND from a
second foreground context or from any interrupt context are `SECOND_CONTEXT`, all else is `WRONG_ISSUER` (R158). -/
def issuerRefusal (a : Issuer) (i : Instr) : RefusalReason :=
  match i, a with
  | .init, .fg2 => .secondContext
  | .init, .isr => .secondContext
  | .init, .ts => .secondContext
  | .send _, .fg2 => .secondContext
  | .send _, .isr => .secondContext
  | .send _, .ts => .secondContext
  | _, _ => .wrongIssuer

/-- The table of R151: which fault an operation raises, and in which states. -/
def faultRaised (i : Instr) (s : State) : Option FaultCode :=
  match i with
  | .init => if s.inited then some .initTwice else if s.gie then some .initUnmasked else none
  | .send _ => if s.inited then none else some .sendBeforeInit
  | .tick =>
    if s.tsDue && tickInterruptEnabled s && s.gie && decide (Config.posMax < s.pos.toNat) then some .posRange
    else none
  | .tsStart => none
  | .tsStop => none
  | .ei => none
  | .di => none

/-- The agent that a faulting operation stops: the one that issued it. -/
def faultingAgent (i : Instr) : Issuer :=
  match i with
  | .tick => .ts
  | .init => .fg
  | .send _ => .fg
  | .tsStart => .fg
  | .tsStop => .fg
  | .ei => .host
  | .di => .host

/-- `n` times: a tick falls due and is delivered (spec/95_test_vectors.md section 3). -/
def tickMoves : Nat → List Move
  | 0 => []
  | n + 1 => .due :: .issue .ts :: tickMoves n

/-- The timed schedule of `n` TICKs, one tick period of `p` cycles before each. -/
def periodMoves (p : Nat) : Nat → List Move
  | 0 => []
  | n + 1 => List.replicate p .cycle ++ .issue .ts :: periodMoves p n

/-- The trace of a frame at the timed level: TICK `k` at `start + k * p` (R195). -/
def timedFrame (b : Byte) (start p : Nat) : List TraceEntry :=
  (frameObs b).zipIdx.map (fun e => { obs := e.1, time := start + e.2 * p })

/-- The state after `n` moves of an infinite schedule. Where no agent can step, the state stays as it is (R154, R160). -/
def afterMoves (m : Nat → Move) (s : State) : Nat → State
  | 0 => s
  | n + 1 =>
    match step { afterMoves m s n with sched := [m n] } with
    | .next t => t
    | .fault _ => afterMoves m s n
    | .refused _ => afterMoves m s n

/-- The move is a step that is enabled, and not an idle turn or time that passes beside a stopped tick source. -/
def moveEnabled (m : Move) (s : State) : Bool :=
  match m with
  | .issue a => issueEnabled a s
  | .tickOverrun => issueEnabled .ts s
  | .due => dueEnabled s
  | .cycle => counting s

/-- The steps of the tick source are weakly fair: one that stays enabled is eventually taken (R120). -/
structure TickSourceFair (m : Nat → Move) (s : State) : Prop where
  /-- A tick falls due, untimed level (R120 item 1). -/
  due : ∀ n, (∀ k, n ≤ k → dueEnabled (afterMoves m s k) = true) → ∃ k, n ≤ k ∧ m k = .due
  /-- The driving clock of a counting tick source goes on, timed level (R27, R120 item 1). -/
  cycle : ∀ n, (∀ k, n ≤ k → counting (afterMoves m s k) = true) → ∃ k, n ≤ k ∧ m k = .cycle
  /-- A TICK is delivered (R120 item 2). -/
  deliver : ∀ n, (∀ k, n ≤ k → issueEnabled .ts (afterMoves m s k) = true) →
    ∃ k, n ≤ k ∧ turnOf (m k) = some .ts

/-- The schedule does not idle for ever while some agent can step. It says nothing of which agent steps. -/
def NeverIdles (m : Nat → Move) (s : State) : Prop :=
  ∀ n, someStepEnabled (afterMoves m s n) = true → ∃ k, n ≤ k ∧ moveEnabled (m k) (afterMoves m s k) = true

/-- From some point on `GIE = 1`, for as long as the frame in flight at the start lasts (R120, R198). -/
def UnmaskedDuringFrame (m : Nat → Move) (s : State) : Prop :=
  ∃ n₀, ∀ n, n₀ ≤ n → (∀ k, k ≤ n → (afterMoves m s k).busy = true) → (afterMoves m s n).gie = true

/-- From some point on `GIE = 1` (R198). -/
def UnmaskedInTheEnd (m : Nat → Move) (s : State) : Prop :=
  ∃ n₀, ∀ n, n₀ ≤ n → (afterMoves m s n).gie = true

/-- Nothing is faulted or refused in the whole run (R198). -/
def NothingStopped (m : Nat → Move) (s : State) : Prop :=
  ∀ n, (afterMoves m s n).fault = [] ∧ (afterMoves m s n).refusals = []

/-- HOST has no DI among the words it still has to issue. -/
def NoDiToCome (s : State) : Prop := ∀ w ∈ s.host.ops, decode w ≠ .ok .di

/-- The operation has a step now (R101, R120): SEND does not hold, and TICK can be delivered. -/
def Enabled (i : Instr) (s : State) : Prop :=
  match i with
  | .init => True
  | .send _ => s.inited = false ∨ s.busy = false
  | .tick => s.tsDue = true ∧ s.tsCtrl.getLsbD 0 = true ∧ s.gie = true
  | .tsStart => True
  | .tsStop => True
  | .ei => True
  | .di => True

/-- The context can step: it is not stopped, and the word it issues next, TS issuing TICK by itself, is refused or is
an operation that has a step now (R13, R75, R76, R120). -/
def CanStep (a : Issuer) (s : State) : Prop :=
  (agentOf a s).stopped = false ∧
  ∃ w, ((agentOf a s).ops.head? = some w ∨ (a = .ts ∧ s.ts.ops = [] ∧ w = 0x3000#16)) ∧
    ∀ i, decode w = .ok i → MayIssue a i → Enabled i s

/-- The tick source can step by itself: a tick can fall due, or the driving clock counts (R27, R120 item 1). -/
def TickSourceCanStep (s : State) : Prop :=
  s.ts.stopped = false ∧ s.tsCtrl.getLsbD 1 = true ∧ (s.cfg.level = .untimed → s.tsDue = false)

/-- Some agent can step (R10, R160). -/
def SomeAgentCanStep (s : State) : Prop := (∃ a, CanStep a s) ∨ TickSourceCanStep s

/-- A state in which no agent can step and the run is not over (R160). -/
def Stuck (s : State) : Prop := ¬ SomeAgentCanStep s ∧ ¬ Final s

/-- The moves that concern the tick source at the timed level. -/
def isClockMove (m : Move) : Bool :=
  match m with
  | .cycle => true
  | .issue .ts => true
  | .tickOverrun => true
  | .issue .fg => false
  | .issue .host => false
  | .issue .fg2 => false
  | .issue .isr => false
  | .due => false

end Sys2Proof.Safety
end

