-- ==== Sys2Proof/Certificates/Slice0/Obligations.lean ====
section
/-! DEFINITION. The statements for the provers, in the order of OBLIGATIONS.json. Each docstring names the rules of spec/ it rests on. -/

open Sys2Proof Sys2Proof.Machine Sys2Proof.Safety

/-! ## Encoding -/

/-- R72, R74, R76: decoding and encoding agree, for every word and every operation. -/
def Obligations.DecodeAndEncodeAgree : Prop :=
  (∀ i : Instr, i.wellFormed = true → decode (encode i) = .ok i) ∧
  (∀ (w : OpWord) (i : Instr), decode w = .ok i → i.wellFormed = true ∧ encode i = w)

/-- R74: the decoder, which is written from R77's pseudocode, agrees with R74's map of match and mask; exactly one
row matches a word, or none does; and the rows' issuers. -/
def Obligations.DecodeFollowsTheOpcodeMap : Prop :=
  (∀ (w : OpWord) (i : Instr),
    decode w = .ok i ↔ ∃ r ∈ opcodeMap, w &&& r.mask = r.matchWord ∧ r.operation (dataField w) = i) ∧
  (∀ w : OpWord, (opcodeMap.filter (fun r => r.selectedBy w)).length ≤ 1) ∧
  issuerOf .init = some .fg ∧ (∀ b, issuerOf (.send b) = some .fg) ∧ issuerOf .tick = some .ts ∧
  issuerOf .tsStart = none ∧ issuerOf .tsStop = none ∧ issuerOf .ei = some .host ∧ issuerOf .di = some .host

/-- R77: the pseudocode, with the three fields computed as numbers from the word. -/
def Obligations.DecodingOrderOfRefusals : Prop :=
  ∀ w : OpWord,
    let op := w.toNat / 4096
    let rsv := w.toNat / 256 % 16
    let lo := w.toNat % 256
    (rsv ≠ 0 → decode w = .error .reservedBits) ∧
    (rsv = 0 → (op = 0 ∨ 8 ≤ op) → decode w = .error .reservedOp) ∧
    (rsv = 0 → op = 2 → decode w = .ok (.send (BitVec.ofNat 8 lo))) ∧
    (rsv = 0 → op = 1 → decode w = if lo = 0 then .ok .init else .error .reservedBits) ∧
    (rsv = 0 → op = 3 → decode w = if lo = 0 then .ok .tick else .error .reservedBits) ∧
    (rsv = 0 → op = 4 → decode w = if lo = 0 then .ok .tsStart else .error .reservedBits) ∧
    (rsv = 0 → op = 5 → decode w = if lo = 0 then .ok .tsStop else .error .reservedBits) ∧
    (rsv = 0 → op = 6 → decode w = if lo = 0 then .ok .ei else .error .reservedBits) ∧
    (rsv = 0 → op = 7 → decode w = if lo = 0 then .ok .di else .error .reservedBits)

/-- spec/95_test_vectors.md section 2.1: words written out from the encoding. -/
def Obligations.WordsOfTheSpecDecode : Prop :=
  decode 0x1000#16 = .ok .init ∧ decode 0x2000#16 = .ok (.send 0x00#8) ∧
  decode 0x2031#16 = .ok (.send 0x31#8) ∧ decode 0x20FF#16 = .ok (.send 0xFF#8) ∧
  decode 0x3000#16 = .ok .tick ∧ decode 0x4000#16 = .ok .tsStart ∧ decode 0x5000#16 = .ok .tsStop ∧
  decode 0x6000#16 = .ok .ei ∧ decode 0x7000#16 = .ok .di ∧
  decode 0x0000#16 = .error .reservedOp ∧ decode 0xFFFF#16 = .error .reservedBits ∧
  decode 0x0F00#16 = .error .reservedBits ∧ decode 0x2100#16 = .error .reservedBits

/-- R78, R79: lines of the assembler syntax and the words they stand for. That `TICK*0` is an error of the count, which R79 says only is
at least 1, and that no white space need follow a colon, are the model's choice (log entry 9). -/
def Obligations.AssemblerReadsItsSyntax : Prop :=
  assembleLine ['I', 'N', 'I', 'T'] = .ok [(.fg, 0x1000#16)] ∧
  assembleLine ['H', 'O', 'S', 'T', ':', ' ', 'e', 'i', ' ', ';', ' ', 'x'] = .ok [(.host, 0x6000#16)] ∧
  assembleLine ['F', 'G', ':', 'S', 'E', 'N', 'D', ' ', '0', 'x', '3', '1'] = .ok [(.fg, 0x2031#16)] ∧
  assembleLine ['S', 'E', 'N', 'D', ' ', '2', '5', '5'] = .ok [(.fg, 0x20FF#16)] ∧
  assembleLine ['S', 'E', 'N', 'D', ' ', '\'', '1', '\''] = .ok [(.fg, 0x2031#16)] ∧
  assembleLine ['S', 'E', 'N', 'D', ' ', '2', '5', '6'] = .error .badOperand ∧
  assembleLine ['T', 'I', 'C', 'K', '*', '3'] = .ok (List.replicate 3 (.ts, 0x3000#16)) ∧
  assembleLine ['T', 'I', 'C', 'K', '*', '0'] = .error .badCount

/-! ## The step -/

/-- R75, R154: when the next word of the agent whose turn it is decodes to an operation it may issue, the step is that
operation's meaning, on the state with the move taken off the schedule. An operation that holds is run too, and then writes
nothing, where some other agent can step: that such a step happens at all is the model's choice (log entry 13). The first
clause covers it; `someStepEnabled` holds whenever the operation does not hold. In the move of an overrun the step is the
meaning of TICK with the tick that is kept due (log entry 21). -/
def Obligations.StepRunsTheDecodedOperation : Prop :=
  ∀ (s : State) (a : Issuer) (w : OpWord) (i : Instr),
    s.cfg.wellFormed = true → (agentOf a s).stopped = false →
    nextWord a s = some w → decode w = .ok i → MayIssue a i →
    (scheduledMove s = .issue a → someStepEnabled s = true → step s = exec i (takeMove s)) ∧
    (scheduledMove s = .issue a → holdsNow i s = false → step s = exec i (takeMove s)) ∧
    (scheduledMove s = .tickOverrun → a = .ts → holdsNow i s = false →
      ∃ t, exec i (takeMove s) = .next t ∧ step s = .next (overrun (takeMove s) t))

/-- R75, R158: an operation issued by a context that may not issue it is refused. No element of the block changes,
the refusal mark is set, the issuing agent stops, and every other agent is as before. That TS is an interrupt context
for SECOND_CONTEXT is log entry 6, and that the refused word stays at the head of its agent is log entry 19. -/
def Obligations.WrongIssuerIsRefused : Prop :=
  ∀ (s : State) (a : Issuer) (w : OpWord) (i : Instr),
    s.cfg.wellFormed = true → turnOf (scheduledMove s) = some a → (agentOf a s).stopped = false →
    nextWord a s = some w → decode w = .ok i → ¬ MayIssue a i →
    ∃ t, step s = .next t ∧ SameBlock s t ∧ t.fault = s.fault ∧
      (∀ r, r ∈ t.refusals ↔ r = issuerRefusal a i ∨ r ∈ s.refusals) ∧ refusalMark t = true ∧
      (agentOf a t).stopped = true ∧ (agentOf a t).ops = (agentOf a s).ops ∧ SameAgentsBut a s t

/-- R76, R158: a word that decodes to no operation is refused in the same way, whoever issues it. That the word stays at the
head of its agent is log entry 19. -/
def Obligations.UndecodableWordIsRefused : Prop :=
  ∀ (s : State) (a : Issuer) (w : OpWord) (r : RefusalReason),
    s.cfg.wellFormed = true → turnOf (scheduledMove s) = some a → (agentOf a s).stopped = false →
    nextWord a s = some w → decode w = .error r →
    ∃ t, step s = .next t ∧ SameBlock s t ∧ t.fault = s.fault ∧
      (∀ x, x ∈ t.refusals ↔ x = r ∨ x ∈ s.refusals) ∧ refusalMark t = true ∧
      (agentOf a t).stopped = true ∧ (agentOf a t).ops = (agentOf a s).ops ∧ SameAgentsBut a s t

/-- R9: a configuration is well formed only when `1 <= P <= PERIOD_MAX` with `P = F_DRV div BAUD`; one that is not is refused and
has no step; and the source's example of `P`. -/
def Obligations.BadConfigurationHasNoStep : Prop :=
  (∀ s : State,
    ¬ (1 ≤ s.cfg.fDrv / s.cfg.baud ∧ s.cfg.fDrv / s.cfg.baud ≤ s.cfg.periodMax) →
      step s = .refused .badConfig ∧ ∀ t, step s ≠ .next t) ∧
  (∀ s t : State, step s = .next t →
    1 ≤ s.cfg.fDrv / s.cfg.baud ∧ s.cfg.fDrv / s.cfg.baud ≤ s.cfg.periodMax) ∧
  (∀ c : Config, c.fDrv = 16000000 → c.baud = 9600 → c.period = 1666)

/-- R160: with a well-formed configuration, a step has no next state exactly where no agent can step: there the run is
over or the state is stuck. What gives each agent a step is spelled out in `CanStep` and `TickSourceCanStep`. That the step
answers the faults `runOver` and `stuck` there, and a next state with nothing changed where some agent can step and the move
scheduled is not enabled, is the model's choice (log entry 13); that it refuses nothing but a bad configuration is log
entry 10. -/
def Obligations.MachineStopsOnlyWhereNoAgentCanStep : Prop :=
  (∀ s : State, s.cfg.wellFormed = true →
    ((∃ t, step s = .next t) ↔ SomeAgentCanStep s) ∧
    (step s = .fault .runOver ↔ ¬ SomeAgentCanStep s ∧ Final s) ∧
    (step s = .fault .stuck ↔ Stuck s)) ∧
  (∀ (s : State) (r : Refusal), step s = .refused r → r = .badConfig ∧ s.cfg.wellFormed = false)

/-- R160: at the end of a run `POS = 0` and `TS_CTRL = 0b00`. -/
def Obligations.FinalStateIsIdle : Prop :=
  ∀ s : State, Coherent s → Final s → s.pos = 0#4 ∧ s.tsCtrl = 0b00#2 ∧ (s.inited = true → s.line = true)

/-! ## Transmitter Control -/

/-- R100: INIT's word and issuer, its two faults in their order, and its effect: `BUSY`, `POS`, `PENDING`, `TS_DUE` and
`TS_COUNT` are not written. The time of the trace entry is log entry 18. -/
def Obligations.InitFollowsItsRule : Prop :=
  decode 0x1000#16 = .ok .init ∧ issuerOf .init = some .fg ∧
  (∀ s : State, s.inited = true → exec .init s = .next (raiseFault .fg .initTwice s)) ∧
  (∀ s : State, s.inited = false → s.gie = true → exec .init s = .next (raiseFault .fg .initUnmasked s)) ∧
  (∀ s : State, s.inited = false → s.gie = false →
    exec .init s = .next { s with
      lineDriven := true, line := true, tsPeriod := s.cfg.fDrv / s.cfg.baud, tsCtrl := 0b00#2, inited := true,
      trace := if s.line = true ∧ s.lineDriven = true then s.trace
        else s.trace ++ [{ obs := .level true, time := s.now }],
      fg := { s.fg with ops := s.fg.ops.tail } })

/-- R101: SEND's word and issuer, and its wait step: a fault before INIT; nothing is written while `BUSY = 1`; else the
commit, in the same step; and only a TICK at position 10 lifts the hold. -/
def Obligations.SendWaitStep : Prop :=
  (∀ b : Byte, decode (0x2000#16 ||| b.setWidth 16) = .ok (.send b) ∧ issuerOf (.send b) = some .fg) ∧
  (∀ (b : Byte) (s : State), s.inited = false → exec (.send b) s = .next (raiseFault .fg .sendBeforeInit s)) ∧
  (∀ (b : Byte) (s : State), s.inited = true → s.busy = true → exec (.send b) s = .next s) ∧
  (∀ (b : Byte) (s : State), s.inited = true → s.busy = false → exec (.send b) s = .next (sendCommit b s)) ∧
  (∀ s t : State, Coherent s → s.busy = true → step s = .next t → t.busy = false →
    turnOf (scheduledMove s) = some .ts ∧ s.pos = 10#4 ∧ deliveryEnabled s = true)

/-- R102: the commit. `LINE` and `POS` are not written, and FG moves on. -/
def Obligations.SendCommits : Prop :=
  ∀ (b : Byte) (s : State), s.inited = true → s.busy = false →
    exec (.send b) s = .next { s with
      busy := true, pending := b, tsCtrl := 0b11#2, fg := { s.fg with ops := s.fg.ops.tail } }

/-- R103: TS_START has a word of its own and no issuer; it writes both fields of `TS_CTRL` and nothing else, so `TS_COUNT` and
`TS_DUE` stay as they are, and on a running tick source it changes nothing. -/
def Obligations.TsStartStartsTheTickSource : Prop :=
  decode 0x4000#16 = .ok .tsStart ∧ (∀ a, ¬ MayIssue a .tsStart) ∧
  (∀ s : State, exec .tsStart s = .next { s with tsCtrl := 0b11#2 }) ∧
  (∀ s : State, s.tsCtrl = 0b11#2 → exec .tsStart s = .next s)

/-- R104: TS_STOP has a word of its own and no issuer; it writes both fields of `TS_CTRL` and nothing else, and it is
idempotent. -/
def Obligations.TsStopIsIdempotent : Prop :=
  decode 0x5000#16 = .ok .tsStop ∧ (∀ a, ¬ MayIssue a .tsStop) ∧
  (∀ s : State, ∃ t, exec .tsStop s = .next t ∧ t = { s with tsCtrl := 0b00#2 } ∧ exec .tsStop t = .next t) ∧
  (∀ s : State, s.tsCtrl = 0b00#2 → exec .tsStop s = .next s)

/-! ## The Bit-Framer -/

/-- R122: the start bit. In a coherent state the entry is `(LINE = 0, BUSY = 1)`, and the line falls from its idle level. The time of
the entry is log entry 18. -/
def Obligations.TickStartBit : Prop :=
  ∀ s : State, s.tsDue = true → tickInterruptEnabled s = true → s.gie = true → s.pos = 0#4 →
    exec .tick s = .next { s with
      tsDue := false, line := false, pos := 1#4,
      trace := s.trace ++ [{ obs := .tick false s.busy, time := tickTime s }],
      ts := { s.ts with ops := s.ts.ops.tail } } ∧
    (Coherent s → s.busy = true ∧ s.line = true)

/-- R123: at position `k` of `1..8` the line takes bit `k-1` of `PENDING`, least significant bit first. The time of the entry is log
entry 18. -/
def Obligations.TickDataBit : Prop :=
  ∀ (s : State) (k : Nat), s.tsDue = true → tickInterruptEnabled s = true → s.gie = true →
    1 ≤ k → k ≤ 8 → s.pos = BitVec.ofNat 4 k →
    exec .tick s = .next { s with
      tsDue := false, line := s.pending.getLsbD (k - 1), pos := BitVec.ofNat 4 (k + 1),
      trace := s.trace ++ [{ obs := .tick (s.pending.getLsbD (k - 1)) s.busy, time := tickTime s }],
      ts := { s.ts with ops := s.ts.ops.tail } } ∧
    (Coherent s → s.busy = true)

/-- R124: the stop bit. The time of the entry is log entry 18. -/
def Obligations.TickStopBit : Prop :=
  ∀ s : State, s.tsDue = true → tickInterruptEnabled s = true → s.gie = true → s.pos = 9#4 →
    exec .tick s = .next { s with
      tsDue := false, line := true, pos := 10#4,
      trace := s.trace ++ [{ obs := .tick true s.busy, time := tickTime s }],
      ts := { s.ts with ops := s.ts.ops.tail } } ∧
    (Coherent s → s.busy = true)

/-- R125: finalize. `LINE` is not written; in a coherent state it is 1. The time of the entry is log entry 18. -/
def Obligations.TickFinalizes : Prop :=
  ∀ s : State, s.tsDue = true → tickInterruptEnabled s = true → s.gie = true → s.pos = 10#4 →
    exec .tick s = .next { s with
      tsDue := false, busy := false, pos := 0#4, tsCtrl := 0b00#2,
      trace := s.trace ++ [{ obs := .tick s.line false, time := tickTime s }],
      ts := { s.ts with ops := s.ts.ops.tail } } ∧
    (Coherent s → s.line = true)

/-- R126: outside `0..10` a TICK raises `POS_RANGE` and writes nothing else; and no step leads out of `0..10`, so from reset
those values are not reached. -/
def Obligations.TickOutOfRangeFaults : Prop :=
  (∀ s : State, s.tsDue = true → tickInterruptEnabled s = true → s.gie = true → 10 < s.pos.toNat →
    exec .tick s = .next (raiseFault .ts .posRange s) ∧ SameBlock s (raiseFault .ts .posRange s)) ∧
  (∀ (c : Config) (u : PowerOn), (State.resetWith c u).pos.toNat ≤ 10) ∧
  (∀ s t : State, s.pos.toNat ≤ 10 → step s = .next t → t.pos.toNat ≤ 10)

/-- R120 item 2: without `TS_DUE = 1`, `IE = 1` and `GIE = 1` no TICK runs, and nothing is written. -/
def Obligations.TickIsNotDeliveredUnlessEnabled : Prop :=
  ∀ s : State, ¬ (s.tsDue = true ∧ tickInterruptEnabled s = true ∧ s.gie = true) → exec .tick s = .next s

/-- R120: only a delivered TICK, in the turn of TS, moves the frame, and delivery clears `TS_DUE`; only where the handler of the
finalize TICK overruns is a tick due again after the step (R104, log entry 21). -/
def Obligations.OnlyADeliveredTickMovesTheFrame : Prop :=
  ∀ s t : State, step s = .next t →
    t.pos ≠ s.pos ∨ (s.busy = true ∧ t.busy = false) ∨ (s.inited = true ∧ t.line ≠ s.line) →
    turnOf (scheduledMove s) = some .ts ∧ s.tsDue = true ∧ tickInterruptEnabled s = true ∧ s.gie = true ∧
      (t.tsDue = true → scheduledMove s = .tickOverrun ∧ s.pos = 10#4)

/-- R120 item 1, R27: at the untimed level a tick falls due when `CS = 1` and `TS_DUE = 0`; while one is due or the
tick source is stopped, none does. -/
def Obligations.TickFallsDueAtTheUntimedLevel : Prop :=
  ∀ s : State, s.cfg.wellFormed = true → s.cfg.level = .untimed → s.ts.stopped = false → scheduledMove s = .due →
    (drivingClockSelected s = true → s.tsDue = false → step s = .next { takeMove s with tsDue := true }) ∧
    ((drivingClockSelected s = false ∨ s.tsDue = true) → ∀ t, step s = .next t → t = takeMove s)

/-- R27: one driving-clock cycle of the timed level, where the tick source runs, where it is stopped, and where a tick
falls due while one is undelivered: it is lost. -/
def Obligations.ClockCycleCounts : Prop :=
  ∀ s : State, s.cfg.level = .timed → s.ts.stopped = false →
    (drivingClockSelected s = false → clockCycle s = { s with now := s.now + 1 }) ∧
    (drivingClockSelected s = true → s.tsCount + 1 < s.tsPeriod →
      clockCycle s = { s with now := s.now + 1, tsCount := s.tsCount + 1 }) ∧
    (drivingClockSelected s = true → s.tsCount + 1 = s.tsPeriod →
      clockCycle s = { s with now := s.now + 1, tsCount := 0, tsDue := true })

/-! ## Host environment -/

/-- R140: EI's word and issuer; it writes `GIE` and nothing else of the block; with a due tick and `IE = 1` it makes a
delivery enabled. -/
def Obligations.EiEnablesInterrupts : Prop :=
  decode 0x6000#16 = .ok .ei ∧ issuerOf .ei = some .host ∧
  (∀ s : State, ∃ t, exec .ei s = .next t ∧
    t = { s with gie := true, host := { s.host with ops := s.host.ops.tail } } ∧
    (s.tsDue = true → tickInterruptEnabled s = true → deliveryEnabled t = true))

/-- R141: DI's word and issuer; it writes `GIE` and nothing else of the block, and no TICK can be delivered after it. -/
def Obligations.DiMasksInterrupts : Prop :=
  decode 0x7000#16 = .ok .di ∧ issuerOf .di = some .host ∧
  (∀ s : State, ∃ t, exec .di s = .next t ∧
    t = { s with gie := false, host := { s.host with ops := s.host.ops.tail } } ∧ deliveryEnabled t = false)

/-! ## Frames, faults and refusals -/

/-- R20, R55: each element of the block is written only by the operations, and at the positions, that R20's table names for it,
and no operation writes the configuration, the clock, the counter, the schedule, the refusal mark or the contexts that issue
nothing. -/
def Obligations.OperationsWriteOnlyTheirElements : Prop :=
  ∀ (i : Instr) (s t : State), exec i s = .next t →
    (t.busy ≠ s.busy → (∃ b, i = .send b ∧ t.busy = true) ∨ (i = .tick ∧ s.pos = 10#4 ∧ t.busy = false)) ∧
    (t.pending ≠ s.pending → ∃ b, i = .send b ∧ t.pending = b) ∧
    (t.pos ≠ s.pos → i = .tick ∧ s.pos.toNat ≤ 10) ∧
    (t.tsCtrl ≠ s.tsCtrl →
      i = .init ∨ (∃ b, i = .send b) ∨ (i = .tick ∧ s.pos = 10#4) ∨ i = .tsStart ∨ i = .tsStop) ∧
    (t.tsPeriod ≠ s.tsPeriod → i = .init) ∧
    (t.line ≠ s.line → i = .init ∨ (i = .tick ∧ s.pos.toNat ≤ 9)) ∧
    (t.lineDriven ≠ s.lineDriven → i = .init) ∧ (t.inited ≠ s.inited → i = .init) ∧
    (t.gie ≠ s.gie → i = .ei ∨ i = .di) ∧ (t.tsDue ≠ s.tsDue → i = .tick ∧ t.tsDue = false) ∧
    (t.trace ≠ s.trace → i = .init ∨ (i = .tick ∧ s.pos.toNat ≤ 10)) ∧
    (t.fg ≠ s.fg → issuerOf i = some .fg) ∧ (t.ts ≠ s.ts → i = .tick) ∧ (t.host ≠ s.host → i = .ei ∨ i = .di) ∧
    t.tsCount = s.tsCount ∧ t.now = s.now ∧ t.cfg = s.cfg ∧ t.refusals = s.refusals ∧ SameSchedule s t ∧
    t.fg2 = s.fg2 ∧ t.isr = s.isr

/-- R120, R27: at the level of the step, only the running tick source makes a tick due and moves the counter. The counter moves at
the timed level only: in a cycle, and in an overrun of the finalize TICK, where a tick falls due (log entry 21). The clock
moves only in a cycle of the timed level, by one, whether or not the tick source runs. -/
def Obligations.OnlyTheTickSourceMakesTicksDue : Prop :=
  ∀ s t : State, step s = .next t →
    (s.tsDue = false → t.tsDue = true →
      drivingClockSelected s = true ∧
        ((s.cfg.level = .untimed ∧ scheduledMove s = .due) ∨ (s.cfg.level = .timed ∧ scheduledMove s = .cycle))) ∧
    (t.tsCount ≠ s.tsCount →
      s.cfg.level = .timed ∧
        ((drivingClockSelected s = true ∧ scheduledMove s = .cycle) ∨
          (scheduledMove s = .tickOverrun ∧ s.pos = 10#4 ∧ t.tsDue = true ∧ t.tsCount = 0))) ∧
    (t.now ≠ s.now → s.cfg.level = .timed ∧ scheduledMove s = .cycle ∧ t.now = s.now + 1)

/-- R151: an operation raises the fault of its row of the table in exactly the states the row names, and no other. A fault
records its code; it writes nothing else of the block; it stops its agent, and a stopped agent takes no further step. That the
faulted operation stays in its agent's list is log entry 19; that the turn of a stopped agent only takes the move off the
schedule is log entry 13. -/
def Obligations.FaultsFollowTheTable : Prop :=
  (∀ (i : Instr) (s : State) (c : FaultCode), faultRaised i s = some c →
    exec i s = .next (raiseFault (faultingAgent i) c s)) ∧
  (∀ (i : Instr) (s : State), faultRaised i s = none →
    ∃ t, exec i s = .next t ∧ t.fault = s.fault ∧ ∀ a, (agentOf a t).stopped = (agentOf a s).stopped) ∧
  (∀ (a : Issuer) (c : FaultCode) (s : State),
    SameBlock s (raiseFault a c s) ∧ (∀ x, x ∈ (raiseFault a c s).fault ↔ x = c ∨ x ∈ s.fault) ∧
    (raiseFault a c s).refusals = s.refusals ∧ SameSchedule s (raiseFault a c s) ∧
    (agentOf a (raiseFault a c s)).stopped = true ∧
    (agentOf a (raiseFault a c s)).ops = (agentOf a s).ops ∧ SameAgentsBut a s (raiseFault a c s)) ∧
  (∀ (s t : State) (a : Issuer), (agentOf a s).stopped = true → step s = .next t →
    agentOf a t = agentOf a s ∧ (turnOf (scheduledMove s) = some a → t = takeMove s))

/-- R31, R13: reset records no fault, a fault adds its code, no step removes a recorded code or a refusal, and a state with a
code recorded is never final. -/
def Obligations.FaultsAndRefusalsAreNeverCleared : Prop :=
  (∀ (c : Config) (u : PowerOn), (State.resetWith c u).fault = []) ∧
  (∀ (a : Issuer) (c : FaultCode) (s : State), c ∈ (raiseFault a c s).fault) ∧
  (∀ s t : State, step s = .next t → s.fault ⊆ t.fault ∧ s.refusals ⊆ t.refusals) ∧
  (∀ s : State, s.fault ≠ [] → ¬ Final s)

/-- R8, R26, R29: no step changes the configuration, and once INIT has run, `TS_PERIOD`, `LINE_DRIVEN` and `INITED` stay. -/
def Obligations.ConfigurationAndPeriodAreFixed : Prop :=
  ∀ s t : State, step s = .next t →
    t.cfg = s.cfg ∧ (s.inited = true → t.inited = true ∧ t.tsPeriod = s.tsPeriod ∧ t.lineDriven = s.lineDriven)

/-! ## Reset and invariants -/

/-- R20, R180: the reset values that the spec gives, for every configuration and whatever the elements hold that it leaves open
(R181); none of the values that the model chose. -/
def Obligations.ResetGivesTheSpecsValues : Prop :=
  ∀ (c : Config) (u : PowerOn),
    let s := State.resetWith c u
    s.cfg = c ∧ s.busy = false ∧ s.pos = 0#4 ∧ s.tsCtrl = 0b00#2 ∧ s.tsDue = false ∧ s.lineDriven = false ∧
    s.inited = false ∧ s.gie = false ∧ s.fault = [] ∧ deliveryEnabled s = false ∧ dueEnabled s = false

/-- R33: its invariants hold at reset, for every configuration and whatever the elements hold that the spec leaves open; so does
the canonical form of the sets, which is the model's own (log entry 19). -/
def Obligations.ResetIsCoherent : Prop :=
  ∀ (c : Config) (u : PowerOn), Coherent (State.resetWith c u) ∧ FrameSoFar (State.resetWith c u) ∧
    CanonicalSets (State.resetWith c u)

/-- R33: from every coherent state, every step gives a coherent state. What a tick kept due finds in the counter is part of it
(R195, log entry 7). -/
def Obligations.StepKeepsCoherence : Prop :=
  ∀ s t : State, Coherent s → step s = .next t → Coherent t

/-- R33 item 5: the trace of the frame in progress is kept in step with `POS`. -/
def Obligations.StepKeepsTheFrameInTheTrace : Prop :=
  ∀ s t : State, Coherent s → FrameSoFar s → step s = .next t → FrameSoFar t

/-- The fault record and the refusal reasons keep their one canonical form, so that equal sets are equal data. -/
def Obligations.StepKeepsCanonicalSets : Prop :=
  ∀ s t : State, CanonicalSets s → step s = .next t → CanonicalSets t

/-- R24: `POS` moves only as 0, 1, ..., 10, 0; a delivered TICK moves it by one, and no other operation moves it; a held SEND
keeps FG at its operation, and a committed one moves FG on. -/
def Obligations.PositionAdvancesInOrder : Prop :=
  (∀ s t : State, step s = .next t →
    t.pos = s.pos ∨ (s.pos.toNat < 10 ∧ t.pos.toNat = s.pos.toNat + 1) ∨ (s.pos = 10#4 ∧ t.pos = 0#4)) ∧
  (∀ s : State, deliveryEnabled s = true → s.pos.toNat ≤ 10 →
    ∃ t, exec .tick s = .next t ∧ t.pos.toNat = (s.pos.toNat + 1) % 11) ∧
  (∀ (i : Instr) (s t : State), i ≠ .tick → exec i s = .next t → t.pos = s.pos) ∧
  (∀ (b : Byte) (s t : State), s.inited = true → exec (.send b) s = .next t →
    t.fg.ops = if s.busy = true then s.fg.ops else s.fg.ops.tail)

/-- R21, R105: once `BUSY = 1`, nothing but the TICK at position 10 clears it or stops the tick source, and `PENDING` does
not change: the frame cannot be aborted. -/
def Obligations.FrameRunsToItsEnd : Prop :=
  ∀ s t : State, Coherent s → s.busy = true → step s = .next t →
    t.pending = s.pending ∧
    ((t.busy = true ∧ t.tsCtrl = s.tsCtrl) ∨
      (t.busy = false ∧ s.pos = 10#4 ∧ t.pos = 0#4 ∧ t.tsCtrl = 0b00#2 ∧ turnOf (scheduledMove s) = some .ts))

/-- R106: while a SEND holds, it has not returned, and FG issues nothing else. -/
def Obligations.HeldSendKeepsTheForeground : Prop :=
  ∀ (s t : State) (b : Byte) (w : OpWord) (rest : List OpWord),
    s.inited = true → s.busy = true → s.fg.ops = w :: rest → decode w = .ok (.send b) →
    step s = .next t → t.fg = s.fg ∧ t.pending = s.pending

/-- R186, R193: while `GIE = 0` the frame does not move, and nothing of it is lost. -/
def Obligations.MaskedFrameStandsStill : Prop :=
  ∀ s t : State, Coherent s → s.busy = true → s.gie = false → step s = .next t →
    t.pos = s.pos ∧ t.line = s.line ∧ t.busy = true ∧ t.pending = s.pending ∧ t.tsCtrl = s.tsCtrl ∧ t.trace = s.trace

/-- R188: a SEND that holds while `GIE = 0` and HOST issues nothing holds for ever, whatever else is scheduled;
and at the untimed level, with a tick already due and no other context at work, the state is stuck. -/
def Obligations.MaskedSendHoldsForEver : Prop :=
  ∀ (s : State) (b : Byte) (w : OpWord) (rest : List OpWord),
    s.inited = true → s.busy = true → s.gie = false → s.host.ops = [] →
    s.fg.ops = w :: rest → decode w = .ok (.send b) →
    (∀ (n : Nat) (t : State), Sys2Proof.core.run n s = .next t →
      t.fg = s.fg ∧ t.busy = true ∧ t.gie = false ∧ t.pending = s.pending ∧ t.pos = s.pos) ∧
    (s.cfg.wellFormed = true → s.cfg.level = .untimed → s.tsDue = true → s.ts.ops = [] → s.fg2.ops = [] →
      s.isr.ops = [] → step s = .fault .stuck)

/-- R14: a step appends at most one entry; it appends one where `LINE` or `LINE_DRIVEN` changes, with the new level; and every
delivered TICK of positions 0 to 10 appends the pair as it stands after the step, with the time of that TICK, whether or
not it changes the line. That a TICK which changes the level appends its pair and no second entry, and that every entry has a
time, are log entry 18. -/
def Obligations.TraceRecordsEveryChangeOfTheLine : Prop :=
  (∀ s t : State, step s = .next t →
    (t.trace = s.trace ∧ t.line = s.line ∧ t.lineDriven = s.lineDriven) ∨
    (t.trace = s.trace ++ [{ obs := .level t.line, time := s.now }] ∧
      (t.line ≠ s.line ∨ t.lineDriven ≠ s.lineDriven)) ∨
    (t.trace = s.trace ++ [{ obs := .tick t.line t.busy, time := tickTime s }] ∧
      turnOf (scheduledMove s) = some .ts)) ∧
  (∀ s : State, deliveryEnabled s = true → s.pos.toNat ≤ 10 →
    ∃ t, exec .tick s = .next t ∧ t.trace = s.trace ++ [{ obs := .tick t.line t.busy, time := tickTime s }])

/-- R22, R181: what `PENDING` holds while no frame is in flight is never observed. Two states that differ only there
take the same step, to states that differ only there; and a commit makes them equal. -/
def Obligations.IdlePendingIsNeverObserved : Prop :=
  ∀ (s t : State) (p : Byte), Coherent s → s.busy = false → step s = .next t →
    (t.busy = false ∧ step { s with pending := p } = .next { t with pending := p }) ∨
    (t.busy = true ∧ step { s with pending := p } = .next t)

/-! ## Whole frames -/

/-- R127, R129: from a commit on, in EVERY run, under every schedule of FG, HOST, the tick source and any other context,
whatever EI and DI do, whatever ticks are lost, and through faults and refusals, the entries appended to the trace
begin with the frame's 11 pairs in order, as far as there are entries. -/
def Obligations.FrameSymbolsComeInOrderInEveryRun : Prop :=
  ∀ (b : Byte) (s t : State) (n : Nat), Committed b s → Sys2Proof.core.run n s = .next t →
    ∃ appended, obsOf t = obsOf s ++ appended ∧
      appended.take 11 = (frameObs b).take appended.length

/-- R128, R198: at the untimed level a committed frame completes after exactly 11 delivered TICKs, on every schedule in which a tick
falls due and is delivered eleven times, with any moves of FG, HOST and other contexts, idle turns and refused words between
these, where `GIE = 1` and HOST has no DI left. -/
def Obligations.FrameCompletesInElevenTicks : Prop :=
  ∀ (b : Byte) (s : State), Committed b s → s.cfg.wellFormed = true → s.cfg.level = .untimed →
    s.gie = true → NoDiToCome s → TicksOnly s → (tickMoves 11).Sublist s.sched →
    ∃ n t, n ≤ s.sched.length ∧ Sys2Proof.core.run n s = .next t ∧ obsOf t = obsOf s ++ frameObs b ∧
      t.busy = false ∧ t.pos = 0#4 ∧ t.tsCtrl = 0b00#2 ∧ t.line = true ∧ t.pending = b

/-- R198: at both levels, under every schedule in which the steps of the tick source are weakly fair, a frame in flight completes,
with `GIE = 1` from some point on while it lasts: the line shows the symbols that were still to come, in order and nothing
else, whatever FG, HOST and other contexts do meanwhile. -/
def Obligations.EveryFairScheduleCompletesTheFrame : Prop :=
  ∀ (m : Nat → Move) (s : State), TickSourceFair m s → UnmaskedDuringFrame m s → Coherent s → s.busy = true →
    s.cfg.wellFormed = true → TicksOnly s →
    ∃ n, (afterMoves m s n).busy = false ∧ (afterMoves m s n).pos = 0#4 ∧
      obsOf (afterMoves m s n) = obsOf s ++ (frameObs s.pending).drop s.pos.toNat

/-- R198: under the same schedules, if they do not idle for ever (log entry 15), a SEND that holds in FG commits once the frame in
flight is over, and latches its own byte; until then FG stays at it. -/
def Obligations.EveryFairScheduleLetsTheHeldSendCommit : Prop :=
  ∀ (m : Nat → Move) (s : State) (c : Byte) (w : OpWord) (rest : List OpWord),
    TickSourceFair m s → NeverIdles m s → UnmaskedDuringFrame m s → Coherent s → s.busy = true →
    s.cfg.wellFormed = true → TicksOnly s →
    s.fg.stopped = false → s.fg.ops = w :: rest → decode w = .ok (.send c) →
    ∃ n, (afterMoves m s n).busy = false ∧ (∀ k, k ≤ n → (afterMoves m s k).fg = s.fg) ∧
      (afterMoves m s (n + 1)).busy = true ∧ (afterMoves m s (n + 1)).pending = c ∧
      (afterMoves m s (n + 1)).fg.ops = rest

/-- R198: at both levels, under the same schedules, with `GIE = 1` from some point on, a run in which nothing is faulted or refused
reaches its end (R160), whatever words FG, HOST and the other contexts have. -/
def Obligations.EveryFairScheduleReachesTheEnd : Prop :=
  ∀ (m : Nat → Move) (s : State), TickSourceFair m s → NeverIdles m s → UnmaskedInTheEnd m s → NothingStopped m s →
    Coherent s → s.cfg.wellFormed = true → TicksOnly s → s.fg.stopped = false → ∃ n, Final (afterMoves m s n)

/-- R27, R195: with a tick kept due, `L = 0`; with none due, the first tick falls due after exactly `L` cycles of a running tick source
and not before, and `L` lies in `1..P`; it is `TS_PERIOD - TS_COUNT` where the counter is in its range, and 1 where it is above it,
which is the model's choice (log entry 8). -/
def Obligations.FirstTickDelayIsTheResidue : Prop :=
  (∀ s : State, s.tsDue = true → firstTickDelay s = 0) ∧
  (∀ s : State, s.tsDue = false → s.tsCount < s.tsPeriod → firstTickDelay s = s.tsPeriod - s.tsCount) ∧
  (∀ s : State, s.tsDue = false → s.tsPeriod ≤ s.tsCount → firstTickDelay s = 1) ∧
  (∀ s : State, s.tsDue = false → 1 ≤ s.tsPeriod → 1 ≤ firstTickDelay s ∧ firstTickDelay s ≤ s.tsPeriod) ∧
  (∀ s : State, s.cfg.level = .timed → s.ts.stopped = false → drivingClockSelected s = true → s.tsDue = false →
    (∀ n, n < firstTickDelay s →
      clockCycles n s = { s with now := s.now + n, tsCount := s.tsCount + n }) ∧
    clockCycles (firstTickDelay s) s =
      { s with now := s.now + firstTickDelay s, tsCount := 0, tsDue := true })

/-- R194: the truncation of the period: `P * BAUD <= F_DRV < (P + 1) * BAUD`, so the bit rate is at least `BAUD`. -/
def Obligations.PeriodTruncationBounds : Prop :=
  ∀ c : Config, 0 < c.baud →
    c.period * c.baud ≤ c.fDrv ∧ c.fDrv < (c.period + 1) * c.baud

/-- R195, R130, R185: at the timed level, wherever HANDLER_FITS holds, under any schedule, TICK `k` of a frame falls due at
`t_c + L + k * P`: a commit starts it so, every step of the frame keeps it so, and a TICK is delivered within the period
that follows, with the time at which it fell due (log entry 18). That HANDLER_FITS lets the finalize handler overrun is log entry 22. -/
def Obligations.TicksStayOnTimeWhereTheHandlerFits : Prop :=
  (∀ (b : Byte) (s : State), ReadyToSend s →
    ∃ t, exec (.send b) s = .next t ∧ t.busy = true ∧ OnTime (s.now + firstTickDelay s) t) ∧
  (∀ (first : Nat) (s t : State), Coherent s → s.busy = true → s.cfg.level = .timed → s.ts.stopped = false →
    HandlerFits s → OnTime first s → step s = .next t → t.busy = true → OnTime first t) ∧
  (∀ (first : Nat) (s : State), OnTime first s → s.cfg.level = .timed → deliveryEnabled s = true →
    first + s.pos.toNat * s.tsPeriod ≤ s.now ∧ s.now < first + (s.pos.toNat + 1) * s.tsPeriod ∧
    tickTime s = first + s.pos.toNat * s.tsPeriod)

/-- R195, R196, R198: at the timed level, on every schedule in which each tick is delivered at the cycle at which it falls due, with
any moves of FG, HOST and other contexts, idle turns and refused words between, and `GIE = 1` throughout, the frame completes:
TICK `k` is at `t_c + L + k * P`, so every symbol lasts `P`, and `BUSY` is 1 for `L + 10 * P` cycles after the commit. The time
of an entry is log entry 18. -/
def Obligations.TimedFrameHasOnePeriodPerSymbol : Prop :=
  ∀ (b : Byte) (s u : State) (later : List Move), ReadyToSend s → s.cfg.wellFormed = true → s.gie = true →
    NoDiToCome s → exec (.send b) s = .next u →
    u.sched.filter isClockMove =
      List.replicate (firstTickDelay s) .cycle ++ .issue .ts :: periodMoves s.tsPeriod 10 ++ later →
    ∃ n t, n ≤ u.sched.length ∧ Sys2Proof.core.run n u = .next t ∧
      t.trace = u.trace ++ timedFrame b (s.now + firstTickDelay s) s.tsPeriod ∧
      t.busy = false ∧ t.now = s.now + firstTickDelay s + 10 * s.tsPeriod ∧ t.now - s.now ≤ 11 * s.tsPeriod

/-! ## The time of a frame's symbols in every run -/

/-- R195, R196: at the timed level, in EVERY run from a commit in which HANDLER_FITS holds, under every schedule, the entries appended to
the trace begin with the frame's 11 pairs, TICK `k` at `t_c + L + k * P`, as far as there are entries. The time of an entry is log
entry 18; that HANDLER_FITS lets the finalize handler overrun is log entry 22. -/
def Obligations.TickTimesAreExactInEveryRunThatFits : Prop :=
  ∀ (b : Byte) (s u t : State) (n : Nat), ReadyToSend s → exec (.send b) s = .next u →
    (∀ k v, k < n → Sys2Proof.core.run k u = .next v → HandlerFits v) → Sys2Proof.core.run n u = .next t →
    ∃ appended, t.trace = u.trace ++ appended ∧
      appended.take 11 = (timedFrame b (s.now + firstTickDelay s) s.tsPeriod).take appended.length

/-- R196: at the timed level, in EVERY run from a commit, under every schedule, whether or not the premises of R195 hold, each symbol of
the frame lasts a whole number of periods, at least one: the times of its TICKs are `t_c + L` and whole periods more, rising. That the
time of a TICK is that of the last tick which fell due is log entry 18. -/
def Obligations.EverySymbolLastsWholePeriods : Prop :=
  ∀ (b : Byte) (s u t : State) (n : Nat), ReadyToSend s → exec (.send b) s = .next u → Sys2Proof.core.run n u = .next t →
    ∃ (appended : List TraceEntry) (periods : List Nat), t.trace = u.trace ++ appended ∧
      (appended.take 11).map TraceEntry.time =
        periods.map (fun k => s.now + firstTickDelay s + k * s.tsPeriod) ∧
      periods.Pairwise (· < ·)

/-- R104, R125, R156, R160: the finalize TICK with a tick that falls due before its handler has ended: all is as after any finalize TICK, but
`TS_DUE = 1`, and the next frame starts with `L = 0` (log entries 7 and 21). -/
def Obligations.FinalizeMayKeepATickDue : Prop :=
  ∀ s : State, Coherent s → TicksOnly s → s.cfg.wellFormed = true → deliveryEnabled s = true → s.pos = 10#4 →
    scheduledMove s = .tickOverrun →
    ∃ t u, exec .tick (takeMove s) = .next u ∧ u.busy = false ∧ u.tsDue = false ∧ step s = .next t ∧
      t = { u with tsDue := true, tsCount := if s.cfg.level = .timed then 0 else s.tsCount } ∧
      t.busy = false ∧ t.pos = 0#4 ∧ t.tsCtrl = 0b00#2 ∧ t.line = true ∧ firstTickDelay t = 0

/-- R8, R103, R191, R195: the delay `L` of the next frame is the rest of the period. A finalize TICK delivered `c` cycles after it fell due
leaves `L = P - c`, in `1..P`; one whose handler overruns leaves `L = 0` (log entry 21); so under every timed configuration each
`L` in `0..P` occurs at the end of some frame; and INIT leaves the counter as it was after reset, where a count that the spec leaves above
the period gives `L = 1` (log entry 8). -/
def Obligations.EveryFirstTickDelayOccurs : Prop :=
  (∀ s : State, Coherent s → TicksOnly s → s.cfg.wellFormed = true → s.tsCount < s.tsPeriod → deliveryEnabled s = true →
    s.pos = 10#4 →
    (scheduledMove s = .issue .ts → ∃ t, step s = .next t ∧ t.busy = false ∧ t.tsPeriod = s.tsPeriod ∧
      firstTickDelay t = s.tsPeriod - s.tsCount ∧ 1 ≤ firstTickDelay t ∧ firstTickDelay t ≤ t.tsPeriod) ∧
    (scheduledMove s = .tickOverrun → ∃ t, step s = .next t ∧ t.busy = false ∧ firstTickDelay t = 0)) ∧
  (∀ (c : Config) (L : Nat), c.wellFormed = true → c.level = .timed → L ≤ c.period →
    ∃ s t, Coherent s ∧ s.cfg = c ∧ s.busy = true ∧ s.tsCount < s.tsPeriod ∧ step s = .next t ∧ t.busy = false ∧
      firstTickDelay t = L) ∧
  (∀ (c : Config) (u : PowerOn), ∃ t, exec .init (State.resetWith c u) = .next t ∧
    firstTickDelay t = if u.tsCount < c.period then c.period - u.tsCount else 1)

/-- R197: a SEND that commits right after the finalize TICK of a frame that is on time: the start bit of the new frame comes between `P`
and `2 * P` after the TICK that began the stop bit, which is at `first + 9 * P`; and it comes `P` after it where the finalize
TICK is delivered as it falls due and the next tick is kept due. -/
def Obligations.StopBitLastsAtLeastOnePeriod : Prop :=
  ∀ (first : Nat) (b : Byte) (s t : State), Coherent s → s.cfg.level = .timed → TicksOnly s → OnTime first s →
    deliveryEnabled s = true → s.pos = 10#4 → turnOf (scheduledMove s) = some .ts → step s = .next t →
    ∃ u, exec (.send b) t = .next u ∧ OnTime (t.now + firstTickDelay t) u ∧
      first + 9 * s.tsPeriod + s.tsPeriod ≤ t.now + firstTickDelay t ∧
      t.now + firstTickDelay t ≤ first + 9 * s.tsPeriod + 2 * s.tsPeriod ∧
      (scheduledMove s = .tickOverrun → s.tsCount = 0 →
        t.now + firstTickDelay t = first + 9 * s.tsPeriod + s.tsPeriod)

/-- R20: from INIT on, `TS_COUNT` stays in `0..TS_PERIOD-1`, once it is there. -/
def Obligations.StepKeepsTheCounterInRange : Prop :=
  ∀ s t : State, s.inited = true → s.tsCount < s.tsPeriod → step s = .next t → t.tsCount < t.tsPeriod

/-- R158, R160: the run-wide refusal mark is set exactly while a refused operation is recorded or the configuration is not well formed;
after reset it is set exactly for a bad configuration; no step clears it; and no state with the mark is the end of a run. -/
def Obligations.RefusalMarkFollowsItsTable : Prop :=
  (∀ s : State, refusalMark s = true ↔ s.refusals ≠ [] ∨ s.cfg.wellFormed = false) ∧
  (∀ s : State, RefusalReason.badConfig ∈ refusalReasons s ↔ s.cfg.wellFormed = false ∨ .badConfig ∈ s.refusals) ∧
  (∀ (c : Config) (u : PowerOn), refusalMark (State.resetWith c u) = !c.wellFormed) ∧
  (∀ s t : State, step s = .next t → refusalMark s = true → refusalMark t = true) ∧
  (∀ s : State, refusalMark s = true → ¬ Final s)
end

