-- ==== Sys2Proof/Laws/Decode.lean ====
section
/-! SUPPORT. The fields of an operation word as numbers, and the facts about the encoder that the decoder's statements use (spec/30_encoding.md R72). -/

namespace Sys2Proof

/-- Every operation is well formed: the operand's type bounds it (R73). -/
theorem Instr.wellFormed_all (i : Instr) : i.wellFormed = true := by
  cases i with
  | send b => have := b.isLt; simp [Instr.wellFormed]; omega
  | init => rfl
  | tick => rfl
  | tsStart => rfl
  | tsStop => rfl
  | ei => rfl
  | di => rfl

theorem opField_toNat (w : OpWord) : (opField w).toNat = w.toNat / 4096 := by
  have := w.isLt
  simp [opField, BitVec.extractLsb'_toNat, Nat.shiftRight_eq_div_pow]; omega

theorem rsvField_toNat (w : OpWord) : (rsvField w).toNat = w.toNat / 256 % 16 := by
  simp [rsvField, BitVec.extractLsb'_toNat, Nat.shiftRight_eq_div_pow]

theorem dataField_toNat (w : OpWord) : (dataField w).toNat = w.toNat % 256 := by
  simp [dataField, BitVec.extractLsb'_toNat]

/-- A field is a given number when its value is. -/
theorem opField_eq (w : OpWord) (k : Nat) (hk : k < 16) : opField w = BitVec.ofNat 4 k ↔ w.toNat / 4096 = k := by
  rw [← BitVec.toNat_inj, opField_toNat, BitVec.toNat_ofNat, Nat.mod_eq_of_lt hk]

theorem rsvField_eq_zero (w : OpWord) : rsvField w = 0#4 ↔ w.toNat / 256 % 16 = 0 := by
  rw [← BitVec.toNat_inj, rsvField_toNat]; rfl

theorem dataField_eq_zero (w : OpWord) : dataField w = 0#8 ↔ w.toNat % 256 = 0 := by
  rw [← BitVec.toNat_inj, dataField_toNat]; rfl

/-- The word of an operation as a number: `OP * 4096` and the low byte. -/
theorem encode_toNat (i : Instr) : (encode i).toNat = (opNumber i).toNat * 4096 + (operandByte i).toNat := by
  cases i with
  | send b => revert b; decide
  | init => rfl
  | tick => rfl
  | tsStart => rfl
  | tsStop => rfl
  | ei => rfl
  | di => rfl

end Sys2Proof
end

