-- ==== Sys2Proof/Laws/State.lean ====
section
/-! SUPPORT. One lemma per field and per shared operation: what the operation leaves in the field. All hold by rfl, so no later proof unfolds a record update. -/

namespace Sys2Proof.Machine

/-! `setAgent` -/

@[simp] theorem setAgent_cfg (a : Issuer) (g : Agent) (s : State) : (setAgent a g s).cfg = s.cfg := by cases a <;> rfl
@[simp] theorem setAgent_busy (a : Issuer) (g : Agent) (s : State) : (setAgent a g s).busy = s.busy := by cases a <;> rfl
@[simp] theorem setAgent_pending (a : Issuer) (g : Agent) (s : State) : (setAgent a g s).pending = s.pending := by cases a <;> rfl
@[simp] theorem setAgent_pos (a : Issuer) (g : Agent) (s : State) : (setAgent a g s).pos = s.pos := by cases a <;> rfl
@[simp] theorem setAgent_tsCtrl (a : Issuer) (g : Agent) (s : State) : (setAgent a g s).tsCtrl = s.tsCtrl := by cases a <;> rfl
@[simp] theorem setAgent_tsPeriod (a : Issuer) (g : Agent) (s : State) : (setAgent a g s).tsPeriod = s.tsPeriod := by cases a <;> rfl
@[simp] theorem setAgent_line (a : Issuer) (g : Agent) (s : State) : (setAgent a g s).line = s.line := by cases a <;> rfl
@[simp] theorem setAgent_lineDriven (a : Issuer) (g : Agent) (s : State) : (setAgent a g s).lineDriven = s.lineDriven := by cases a <;> rfl
@[simp] theorem setAgent_inited (a : Issuer) (g : Agent) (s : State) : (setAgent a g s).inited = s.inited := by cases a <;> rfl
@[simp] theorem setAgent_gie (a : Issuer) (g : Agent) (s : State) : (setAgent a g s).gie = s.gie := by cases a <;> rfl
@[simp] theorem setAgent_tsDue (a : Issuer) (g : Agent) (s : State) : (setAgent a g s).tsDue = s.tsDue := by cases a <;> rfl
@[simp] theorem setAgent_tsCount (a : Issuer) (g : Agent) (s : State) : (setAgent a g s).tsCount = s.tsCount := by cases a <;> rfl
@[simp] theorem setAgent_fault (a : Issuer) (g : Agent) (s : State) : (setAgent a g s).fault = s.fault := by cases a <;> rfl
@[simp] theorem setAgent_refusals (a : Issuer) (g : Agent) (s : State) : (setAgent a g s).refusals = s.refusals := by cases a <;> rfl
@[simp] theorem setAgent_trace (a : Issuer) (g : Agent) (s : State) : (setAgent a g s).trace = s.trace := by cases a <;> rfl
@[simp] theorem setAgent_now (a : Issuer) (g : Agent) (s : State) : (setAgent a g s).now = s.now := by cases a <;> rfl
@[simp] theorem setAgent_sched (a : Issuer) (g : Agent) (s : State) : (setAgent a g s).sched = s.sched := by cases a <;> rfl
@[simp] theorem setAgent_draws (a : Issuer) (g : Agent) (s : State) : (setAgent a g s).draws = s.draws := by cases a <;> rfl

/-! `advance` -/

@[simp] theorem advance_cfg (a : Issuer) (s : State) : (advance a s).cfg = s.cfg := by cases a <;> rfl
@[simp] theorem advance_busy (a : Issuer) (s : State) : (advance a s).busy = s.busy := by cases a <;> rfl
@[simp] theorem advance_pending (a : Issuer) (s : State) : (advance a s).pending = s.pending := by cases a <;> rfl
@[simp] theorem advance_pos (a : Issuer) (s : State) : (advance a s).pos = s.pos := by cases a <;> rfl
@[simp] theorem advance_tsCtrl (a : Issuer) (s : State) : (advance a s).tsCtrl = s.tsCtrl := by cases a <;> rfl
@[simp] theorem advance_tsPeriod (a : Issuer) (s : State) : (advance a s).tsPeriod = s.tsPeriod := by cases a <;> rfl
@[simp] theorem advance_line (a : Issuer) (s : State) : (advance a s).line = s.line := by cases a <;> rfl
@[simp] theorem advance_lineDriven (a : Issuer) (s : State) : (advance a s).lineDriven = s.lineDriven := by cases a <;> rfl
@[simp] theorem advance_inited (a : Issuer) (s : State) : (advance a s).inited = s.inited := by cases a <;> rfl
@[simp] theorem advance_gie (a : Issuer) (s : State) : (advance a s).gie = s.gie := by cases a <;> rfl
@[simp] theorem advance_tsDue (a : Issuer) (s : State) : (advance a s).tsDue = s.tsDue := by cases a <;> rfl
@[simp] theorem advance_tsCount (a : Issuer) (s : State) : (advance a s).tsCount = s.tsCount := by cases a <;> rfl
@[simp] theorem advance_fault (a : Issuer) (s : State) : (advance a s).fault = s.fault := by cases a <;> rfl
@[simp] theorem advance_refusals (a : Issuer) (s : State) : (advance a s).refusals = s.refusals := by cases a <;> rfl
@[simp] theorem advance_trace (a : Issuer) (s : State) : (advance a s).trace = s.trace := by cases a <;> rfl
@[simp] theorem advance_now (a : Issuer) (s : State) : (advance a s).now = s.now := by cases a <;> rfl
@[simp] theorem advance_sched (a : Issuer) (s : State) : (advance a s).sched = s.sched := by cases a <;> rfl
@[simp] theorem advance_draws (a : Issuer) (s : State) : (advance a s).draws = s.draws := by cases a <;> rfl

/-! `stopAgent` -/

@[simp] theorem stopAgent_cfg (a : Issuer) (s : State) : (stopAgent a s).cfg = s.cfg := by cases a <;> rfl
@[simp] theorem stopAgent_busy (a : Issuer) (s : State) : (stopAgent a s).busy = s.busy := by cases a <;> rfl
@[simp] theorem stopAgent_pending (a : Issuer) (s : State) : (stopAgent a s).pending = s.pending := by cases a <;> rfl
@[simp] theorem stopAgent_pos (a : Issuer) (s : State) : (stopAgent a s).pos = s.pos := by cases a <;> rfl
@[simp] theorem stopAgent_tsCtrl (a : Issuer) (s : State) : (stopAgent a s).tsCtrl = s.tsCtrl := by cases a <;> rfl
@[simp] theorem stopAgent_tsPeriod (a : Issuer) (s : State) : (stopAgent a s).tsPeriod = s.tsPeriod := by cases a <;> rfl
@[simp] theorem stopAgent_line (a : Issuer) (s : State) : (stopAgent a s).line = s.line := by cases a <;> rfl
@[simp] theorem stopAgent_lineDriven (a : Issuer) (s : State) : (stopAgent a s).lineDriven = s.lineDriven := by cases a <;> rfl
@[simp] theorem stopAgent_inited (a : Issuer) (s : State) : (stopAgent a s).inited = s.inited := by cases a <;> rfl
@[simp] theorem stopAgent_gie (a : Issuer) (s : State) : (stopAgent a s).gie = s.gie := by cases a <;> rfl
@[simp] theorem stopAgent_tsDue (a : Issuer) (s : State) : (stopAgent a s).tsDue = s.tsDue := by cases a <;> rfl
@[simp] theorem stopAgent_tsCount (a : Issuer) (s : State) : (stopAgent a s).tsCount = s.tsCount := by cases a <;> rfl
@[simp] theorem stopAgent_fault (a : Issuer) (s : State) : (stopAgent a s).fault = s.fault := by cases a <;> rfl
@[simp] theorem stopAgent_refusals (a : Issuer) (s : State) : (stopAgent a s).refusals = s.refusals := by cases a <;> rfl
@[simp] theorem stopAgent_trace (a : Issuer) (s : State) : (stopAgent a s).trace = s.trace := by cases a <;> rfl
@[simp] theorem stopAgent_now (a : Issuer) (s : State) : (stopAgent a s).now = s.now := by cases a <;> rfl
@[simp] theorem stopAgent_sched (a : Issuer) (s : State) : (stopAgent a s).sched = s.sched := by cases a <;> rfl
@[simp] theorem stopAgent_draws (a : Issuer) (s : State) : (stopAgent a s).draws = s.draws := by cases a <;> rfl

/-! `raiseFault` -/

@[simp] theorem raiseFault_cfg (a : Issuer) (c : FaultCode) (s : State) : (raiseFault a c s).cfg = s.cfg := by cases a <;> rfl
@[simp] theorem raiseFault_busy (a : Issuer) (c : FaultCode) (s : State) : (raiseFault a c s).busy = s.busy := by cases a <;> rfl
@[simp] theorem raiseFault_pending (a : Issuer) (c : FaultCode) (s : State) : (raiseFault a c s).pending = s.pending := by cases a <;> rfl
@[simp] theorem raiseFault_pos (a : Issuer) (c : FaultCode) (s : State) : (raiseFault a c s).pos = s.pos := by cases a <;> rfl
@[simp] theorem raiseFault_tsCtrl (a : Issuer) (c : FaultCode) (s : State) : (raiseFault a c s).tsCtrl = s.tsCtrl := by cases a <;> rfl
@[simp] theorem raiseFault_tsPeriod (a : Issuer) (c : FaultCode) (s : State) : (raiseFault a c s).tsPeriod = s.tsPeriod := by cases a <;> rfl
@[simp] theorem raiseFault_line (a : Issuer) (c : FaultCode) (s : State) : (raiseFault a c s).line = s.line := by cases a <;> rfl
@[simp] theorem raiseFault_lineDriven (a : Issuer) (c : FaultCode) (s : State) : (raiseFault a c s).lineDriven = s.lineDriven := by cases a <;> rfl
@[simp] theorem raiseFault_inited (a : Issuer) (c : FaultCode) (s : State) : (raiseFault a c s).inited = s.inited := by cases a <;> rfl
@[simp] theorem raiseFault_gie (a : Issuer) (c : FaultCode) (s : State) : (raiseFault a c s).gie = s.gie := by cases a <;> rfl
@[simp] theorem raiseFault_tsDue (a : Issuer) (c : FaultCode) (s : State) : (raiseFault a c s).tsDue = s.tsDue := by cases a <;> rfl
@[simp] theorem raiseFault_tsCount (a : Issuer) (c : FaultCode) (s : State) : (raiseFault a c s).tsCount = s.tsCount := by cases a <;> rfl
@[simp] theorem raiseFault_fault (a : Issuer) (c : FaultCode) (s : State) : (raiseFault a c s).fault = insertRanked FaultCode.code c s.fault := by cases a <;> rfl
@[simp] theorem raiseFault_refusals (a : Issuer) (c : FaultCode) (s : State) : (raiseFault a c s).refusals = s.refusals := by cases a <;> rfl
@[simp] theorem raiseFault_trace (a : Issuer) (c : FaultCode) (s : State) : (raiseFault a c s).trace = s.trace := by cases a <;> rfl
@[simp] theorem raiseFault_now (a : Issuer) (c : FaultCode) (s : State) : (raiseFault a c s).now = s.now := by cases a <;> rfl
@[simp] theorem raiseFault_sched (a : Issuer) (c : FaultCode) (s : State) : (raiseFault a c s).sched = s.sched := by cases a <;> rfl
@[simp] theorem raiseFault_draws (a : Issuer) (c : FaultCode) (s : State) : (raiseFault a c s).draws = s.draws := by cases a <;> rfl

/-! `refuse` -/

@[simp] theorem refuse_cfg (a : Issuer) (r : RefusalReason) (s : State) : (refuse a r s).cfg = s.cfg := by cases a <;> rfl
@[simp] theorem refuse_busy (a : Issuer) (r : RefusalReason) (s : State) : (refuse a r s).busy = s.busy := by cases a <;> rfl
@[simp] theorem refuse_pending (a : Issuer) (r : RefusalReason) (s : State) : (refuse a r s).pending = s.pending := by cases a <;> rfl
@[simp] theorem refuse_pos (a : Issuer) (r : RefusalReason) (s : State) : (refuse a r s).pos = s.pos := by cases a <;> rfl
@[simp] theorem refuse_tsCtrl (a : Issuer) (r : RefusalReason) (s : State) : (refuse a r s).tsCtrl = s.tsCtrl := by cases a <;> rfl
@[simp] theorem refuse_tsPeriod (a : Issuer) (r : RefusalReason) (s : State) : (refuse a r s).tsPeriod = s.tsPeriod := by cases a <;> rfl
@[simp] theorem refuse_line (a : Issuer) (r : RefusalReason) (s : State) : (refuse a r s).line = s.line := by cases a <;> rfl
@[simp] theorem refuse_lineDriven (a : Issuer) (r : RefusalReason) (s : State) : (refuse a r s).lineDriven = s.lineDriven := by cases a <;> rfl
@[simp] theorem refuse_inited (a : Issuer) (r : RefusalReason) (s : State) : (refuse a r s).inited = s.inited := by cases a <;> rfl
@[simp] theorem refuse_gie (a : Issuer) (r : RefusalReason) (s : State) : (refuse a r s).gie = s.gie := by cases a <;> rfl
@[simp] theorem refuse_tsDue (a : Issuer) (r : RefusalReason) (s : State) : (refuse a r s).tsDue = s.tsDue := by cases a <;> rfl
@[simp] theorem refuse_tsCount (a : Issuer) (r : RefusalReason) (s : State) : (refuse a r s).tsCount = s.tsCount := by cases a <;> rfl
@[simp] theorem refuse_fault (a : Issuer) (r : RefusalReason) (s : State) : (refuse a r s).fault = s.fault := by cases a <;> rfl
@[simp] theorem refuse_refusals (a : Issuer) (r : RefusalReason) (s : State) : (refuse a r s).refusals = insertRanked RefusalReason.rank r s.refusals := by cases a <;> rfl
@[simp] theorem refuse_trace (a : Issuer) (r : RefusalReason) (s : State) : (refuse a r s).trace = s.trace := by cases a <;> rfl
@[simp] theorem refuse_now (a : Issuer) (r : RefusalReason) (s : State) : (refuse a r s).now = s.now := by cases a <;> rfl
@[simp] theorem refuse_sched (a : Issuer) (r : RefusalReason) (s : State) : (refuse a r s).sched = s.sched := by cases a <;> rfl
@[simp] theorem refuse_draws (a : Issuer) (r : RefusalReason) (s : State) : (refuse a r s).draws = s.draws := by cases a <;> rfl

/-! `lineDrive` -/

@[simp] theorem lineDrive_cfg (v : Bool) (s : State) : (lineDrive v s).cfg = s.cfg := rfl
@[simp] theorem lineDrive_busy (v : Bool) (s : State) : (lineDrive v s).busy = s.busy := rfl
@[simp] theorem lineDrive_pending (v : Bool) (s : State) : (lineDrive v s).pending = s.pending := rfl
@[simp] theorem lineDrive_pos (v : Bool) (s : State) : (lineDrive v s).pos = s.pos := rfl
@[simp] theorem lineDrive_tsCtrl (v : Bool) (s : State) : (lineDrive v s).tsCtrl = s.tsCtrl := rfl
@[simp] theorem lineDrive_tsPeriod (v : Bool) (s : State) : (lineDrive v s).tsPeriod = s.tsPeriod := rfl
@[simp] theorem lineDrive_line (v : Bool) (s : State) : (lineDrive v s).line = v := rfl
@[simp] theorem lineDrive_lineDriven (v : Bool) (s : State) : (lineDrive v s).lineDriven = true := rfl
@[simp] theorem lineDrive_inited (v : Bool) (s : State) : (lineDrive v s).inited = s.inited := rfl
@[simp] theorem lineDrive_gie (v : Bool) (s : State) : (lineDrive v s).gie = s.gie := rfl
@[simp] theorem lineDrive_tsDue (v : Bool) (s : State) : (lineDrive v s).tsDue = s.tsDue := rfl
@[simp] theorem lineDrive_tsCount (v : Bool) (s : State) : (lineDrive v s).tsCount = s.tsCount := rfl
@[simp] theorem lineDrive_fault (v : Bool) (s : State) : (lineDrive v s).fault = s.fault := rfl
@[simp] theorem lineDrive_refusals (v : Bool) (s : State) : (lineDrive v s).refusals = s.refusals := rfl
@[simp] theorem lineDrive_trace (v : Bool) (s : State) : (lineDrive v s).trace = s.trace := rfl
@[simp] theorem lineDrive_now (v : Bool) (s : State) : (lineDrive v s).now = s.now := rfl
@[simp] theorem lineDrive_sched (v : Bool) (s : State) : (lineDrive v s).sched = s.sched := rfl
@[simp] theorem lineDrive_draws (v : Bool) (s : State) : (lineDrive v s).draws = s.draws := rfl
@[simp] theorem agentOf_lineDrive (b' : Issuer) (v : Bool) (s : State) : agentOf b' (lineDrive v s) = agentOf b' s := by cases b' <;> rfl

/-! `record` -/

@[simp] theorem record_cfg (o : Obs) (n : Nat) (s : State) : (record o n s).cfg = s.cfg := rfl
@[simp] theorem record_busy (o : Obs) (n : Nat) (s : State) : (record o n s).busy = s.busy := rfl
@[simp] theorem record_pending (o : Obs) (n : Nat) (s : State) : (record o n s).pending = s.pending := rfl
@[simp] theorem record_pos (o : Obs) (n : Nat) (s : State) : (record o n s).pos = s.pos := rfl
@[simp] theorem record_tsCtrl (o : Obs) (n : Nat) (s : State) : (record o n s).tsCtrl = s.tsCtrl := rfl
@[simp] theorem record_tsPeriod (o : Obs) (n : Nat) (s : State) : (record o n s).tsPeriod = s.tsPeriod := rfl
@[simp] theorem record_line (o : Obs) (n : Nat) (s : State) : (record o n s).line = s.line := rfl
@[simp] theorem record_lineDriven (o : Obs) (n : Nat) (s : State) : (record o n s).lineDriven = s.lineDriven := rfl
@[simp] theorem record_inited (o : Obs) (n : Nat) (s : State) : (record o n s).inited = s.inited := rfl
@[simp] theorem record_gie (o : Obs) (n : Nat) (s : State) : (record o n s).gie = s.gie := rfl
@[simp] theorem record_tsDue (o : Obs) (n : Nat) (s : State) : (record o n s).tsDue = s.tsDue := rfl
@[simp] theorem record_tsCount (o : Obs) (n : Nat) (s : State) : (record o n s).tsCount = s.tsCount := rfl
@[simp] theorem record_fault (o : Obs) (n : Nat) (s : State) : (record o n s).fault = s.fault := rfl
@[simp] theorem record_refusals (o : Obs) (n : Nat) (s : State) : (record o n s).refusals = s.refusals := rfl
@[simp] theorem record_trace (o : Obs) (n : Nat) (s : State) : (record o n s).trace = s.trace ++ [{ obs := o, time := n }] := rfl
@[simp] theorem record_now (o : Obs) (n : Nat) (s : State) : (record o n s).now = s.now := rfl
@[simp] theorem record_sched (o : Obs) (n : Nat) (s : State) : (record o n s).sched = s.sched := rfl
@[simp] theorem record_draws (o : Obs) (n : Nat) (s : State) : (record o n s).draws = s.draws := rfl
@[simp] theorem agentOf_record (b' : Issuer) (o : Obs) (n : Nat) (s : State) : agentOf b' (record o n s) = agentOf b' s := by cases b' <;> rfl

/-! `setBusy` -/

@[simp] theorem setBusy_cfg (s : State) : (setBusy s).cfg = s.cfg := rfl
@[simp] theorem setBusy_busy (s : State) : (setBusy s).busy = true := rfl
@[simp] theorem setBusy_pending (s : State) : (setBusy s).pending = s.pending := rfl
@[simp] theorem setBusy_pos (s : State) : (setBusy s).pos = s.pos := rfl
@[simp] theorem setBusy_tsCtrl (s : State) : (setBusy s).tsCtrl = s.tsCtrl := rfl
@[simp] theorem setBusy_tsPeriod (s : State) : (setBusy s).tsPeriod = s.tsPeriod := rfl
@[simp] theorem setBusy_line (s : State) : (setBusy s).line = s.line := rfl
@[simp] theorem setBusy_lineDriven (s : State) : (setBusy s).lineDriven = s.lineDriven := rfl
@[simp] theorem setBusy_inited (s : State) : (setBusy s).inited = s.inited := rfl
@[simp] theorem setBusy_gie (s : State) : (setBusy s).gie = s.gie := rfl
@[simp] theorem setBusy_tsDue (s : State) : (setBusy s).tsDue = s.tsDue := rfl
@[simp] theorem setBusy_tsCount (s : State) : (setBusy s).tsCount = s.tsCount := rfl
@[simp] theorem setBusy_fault (s : State) : (setBusy s).fault = s.fault := rfl
@[simp] theorem setBusy_refusals (s : State) : (setBusy s).refusals = s.refusals := rfl
@[simp] theorem setBusy_trace (s : State) : (setBusy s).trace = s.trace := rfl
@[simp] theorem setBusy_now (s : State) : (setBusy s).now = s.now := rfl
@[simp] theorem setBusy_sched (s : State) : (setBusy s).sched = s.sched := rfl
@[simp] theorem setBusy_draws (s : State) : (setBusy s).draws = s.draws := rfl
@[simp] theorem agentOf_setBusy (b' : Issuer) (s : State) : agentOf b' (setBusy s) = agentOf b' s := by cases b' <;> rfl

/-! `clearBusy` -/

@[simp] theorem clearBusy_cfg (s : State) : (clearBusy s).cfg = s.cfg := rfl
@[simp] theorem clearBusy_busy (s : State) : (clearBusy s).busy = false := rfl
@[simp] theorem clearBusy_pending (s : State) : (clearBusy s).pending = s.pending := rfl
@[simp] theorem clearBusy_pos (s : State) : (clearBusy s).pos = s.pos := rfl
@[simp] theorem clearBusy_tsCtrl (s : State) : (clearBusy s).tsCtrl = s.tsCtrl := rfl
@[simp] theorem clearBusy_tsPeriod (s : State) : (clearBusy s).tsPeriod = s.tsPeriod := rfl
@[simp] theorem clearBusy_line (s : State) : (clearBusy s).line = s.line := rfl
@[simp] theorem clearBusy_lineDriven (s : State) : (clearBusy s).lineDriven = s.lineDriven := rfl
@[simp] theorem clearBusy_inited (s : State) : (clearBusy s).inited = s.inited := rfl
@[simp] theorem clearBusy_gie (s : State) : (clearBusy s).gie = s.gie := rfl
@[simp] theorem clearBusy_tsDue (s : State) : (clearBusy s).tsDue = s.tsDue := rfl
@[simp] theorem clearBusy_tsCount (s : State) : (clearBusy s).tsCount = s.tsCount := rfl
@[simp] theorem clearBusy_fault (s : State) : (clearBusy s).fault = s.fault := rfl
@[simp] theorem clearBusy_refusals (s : State) : (clearBusy s).refusals = s.refusals := rfl
@[simp] theorem clearBusy_trace (s : State) : (clearBusy s).trace = s.trace := rfl
@[simp] theorem clearBusy_now (s : State) : (clearBusy s).now = s.now := rfl
@[simp] theorem clearBusy_sched (s : State) : (clearBusy s).sched = s.sched := rfl
@[simp] theorem clearBusy_draws (s : State) : (clearBusy s).draws = s.draws := rfl
@[simp] theorem agentOf_clearBusy (b' : Issuer) (s : State) : agentOf b' (clearBusy s) = agentOf b' s := by cases b' <;> rfl

/-! `tsStart` -/

@[simp] theorem tsStart_cfg (s : State) : (tsStart s).cfg = s.cfg := rfl
@[simp] theorem tsStart_busy (s : State) : (tsStart s).busy = s.busy := rfl
@[simp] theorem tsStart_pending (s : State) : (tsStart s).pending = s.pending := rfl
@[simp] theorem tsStart_pos (s : State) : (tsStart s).pos = s.pos := rfl
@[simp] theorem tsStart_tsCtrl (s : State) : (tsStart s).tsCtrl = tsCtrlRunning := rfl
@[simp] theorem tsStart_tsPeriod (s : State) : (tsStart s).tsPeriod = s.tsPeriod := rfl
@[simp] theorem tsStart_line (s : State) : (tsStart s).line = s.line := rfl
@[simp] theorem tsStart_lineDriven (s : State) : (tsStart s).lineDriven = s.lineDriven := rfl
@[simp] theorem tsStart_inited (s : State) : (tsStart s).inited = s.inited := rfl
@[simp] theorem tsStart_gie (s : State) : (tsStart s).gie = s.gie := rfl
@[simp] theorem tsStart_tsDue (s : State) : (tsStart s).tsDue = s.tsDue := rfl
@[simp] theorem tsStart_tsCount (s : State) : (tsStart s).tsCount = s.tsCount := rfl
@[simp] theorem tsStart_fault (s : State) : (tsStart s).fault = s.fault := rfl
@[simp] theorem tsStart_refusals (s : State) : (tsStart s).refusals = s.refusals := rfl
@[simp] theorem tsStart_trace (s : State) : (tsStart s).trace = s.trace := rfl
@[simp] theorem tsStart_now (s : State) : (tsStart s).now = s.now := rfl
@[simp] theorem tsStart_sched (s : State) : (tsStart s).sched = s.sched := rfl
@[simp] theorem tsStart_draws (s : State) : (tsStart s).draws = s.draws := rfl
@[simp] theorem agentOf_tsStart (b' : Issuer) (s : State) : agentOf b' (tsStart s) = agentOf b' s := by cases b' <;> rfl

/-! `tsStop` -/

@[simp] theorem tsStop_cfg (s : State) : (tsStop s).cfg = s.cfg := rfl
@[simp] theorem tsStop_busy (s : State) : (tsStop s).busy = s.busy := rfl
@[simp] theorem tsStop_pending (s : State) : (tsStop s).pending = s.pending := rfl
@[simp] theorem tsStop_pos (s : State) : (tsStop s).pos = s.pos := rfl
@[simp] theorem tsStop_tsCtrl (s : State) : (tsStop s).tsCtrl = tsCtrlStopped := rfl
@[simp] theorem tsStop_tsPeriod (s : State) : (tsStop s).tsPeriod = s.tsPeriod := rfl
@[simp] theorem tsStop_line (s : State) : (tsStop s).line = s.line := rfl
@[simp] theorem tsStop_lineDriven (s : State) : (tsStop s).lineDriven = s.lineDriven := rfl
@[simp] theorem tsStop_inited (s : State) : (tsStop s).inited = s.inited := rfl
@[simp] theorem tsStop_gie (s : State) : (tsStop s).gie = s.gie := rfl
@[simp] theorem tsStop_tsDue (s : State) : (tsStop s).tsDue = s.tsDue := rfl
@[simp] theorem tsStop_tsCount (s : State) : (tsStop s).tsCount = s.tsCount := rfl
@[simp] theorem tsStop_fault (s : State) : (tsStop s).fault = s.fault := rfl
@[simp] theorem tsStop_refusals (s : State) : (tsStop s).refusals = s.refusals := rfl
@[simp] theorem tsStop_trace (s : State) : (tsStop s).trace = s.trace := rfl
@[simp] theorem tsStop_now (s : State) : (tsStop s).now = s.now := rfl
@[simp] theorem tsStop_sched (s : State) : (tsStop s).sched = s.sched := rfl
@[simp] theorem tsStop_draws (s : State) : (tsStop s).draws = s.draws := rfl
@[simp] theorem agentOf_tsStop (b' : Issuer) (s : State) : agentOf b' (tsStop s) = agentOf b' s := by cases b' <;> rfl

/-! `latchPending` -/

@[simp] theorem latchPending_cfg (b : Byte) (s : State) : (latchPending b s).cfg = s.cfg := rfl
@[simp] theorem latchPending_busy (b : Byte) (s : State) : (latchPending b s).busy = s.busy := rfl
@[simp] theorem latchPending_pending (b : Byte) (s : State) : (latchPending b s).pending = b := rfl
@[simp] theorem latchPending_pos (b : Byte) (s : State) : (latchPending b s).pos = s.pos := rfl
@[simp] theorem latchPending_tsCtrl (b : Byte) (s : State) : (latchPending b s).tsCtrl = s.tsCtrl := rfl
@[simp] theorem latchPending_tsPeriod (b : Byte) (s : State) : (latchPending b s).tsPeriod = s.tsPeriod := rfl
@[simp] theorem latchPending_line (b : Byte) (s : State) : (latchPending b s).line = s.line := rfl
@[simp] theorem latchPending_lineDriven (b : Byte) (s : State) : (latchPending b s).lineDriven = s.lineDriven := rfl
@[simp] theorem latchPending_inited (b : Byte) (s : State) : (latchPending b s).inited = s.inited := rfl
@[simp] theorem latchPending_gie (b : Byte) (s : State) : (latchPending b s).gie = s.gie := rfl
@[simp] theorem latchPending_tsDue (b : Byte) (s : State) : (latchPending b s).tsDue = s.tsDue := rfl
@[simp] theorem latchPending_tsCount (b : Byte) (s : State) : (latchPending b s).tsCount = s.tsCount := rfl
@[simp] theorem latchPending_fault (b : Byte) (s : State) : (latchPending b s).fault = s.fault := rfl
@[simp] theorem latchPending_refusals (b : Byte) (s : State) : (latchPending b s).refusals = s.refusals := rfl
@[simp] theorem latchPending_trace (b : Byte) (s : State) : (latchPending b s).trace = s.trace := rfl
@[simp] theorem latchPending_now (b : Byte) (s : State) : (latchPending b s).now = s.now := rfl
@[simp] theorem latchPending_sched (b : Byte) (s : State) : (latchPending b s).sched = s.sched := rfl
@[simp] theorem latchPending_draws (b : Byte) (s : State) : (latchPending b s).draws = s.draws := rfl
@[simp] theorem agentOf_latchPending (b' : Issuer) (b : Byte) (s : State) : agentOf b' (latchPending b s) = agentOf b' s := by cases b' <;> rfl

/-! `tickFallsDue` -/

@[simp] theorem tickFallsDue_cfg (s : State) : (tickFallsDue s).cfg = s.cfg := rfl
@[simp] theorem tickFallsDue_busy (s : State) : (tickFallsDue s).busy = s.busy := rfl
@[simp] theorem tickFallsDue_pending (s : State) : (tickFallsDue s).pending = s.pending := rfl
@[simp] theorem tickFallsDue_pos (s : State) : (tickFallsDue s).pos = s.pos := rfl
@[simp] theorem tickFallsDue_tsCtrl (s : State) : (tickFallsDue s).tsCtrl = s.tsCtrl := rfl
@[simp] theorem tickFallsDue_tsPeriod (s : State) : (tickFallsDue s).tsPeriod = s.tsPeriod := rfl
@[simp] theorem tickFallsDue_line (s : State) : (tickFallsDue s).line = s.line := rfl
@[simp] theorem tickFallsDue_lineDriven (s : State) : (tickFallsDue s).lineDriven = s.lineDriven := rfl
@[simp] theorem tickFallsDue_inited (s : State) : (tickFallsDue s).inited = s.inited := rfl
@[simp] theorem tickFallsDue_gie (s : State) : (tickFallsDue s).gie = s.gie := rfl
@[simp] theorem tickFallsDue_tsDue (s : State) : (tickFallsDue s).tsDue = true := rfl
@[simp] theorem tickFallsDue_tsCount (s : State) : (tickFallsDue s).tsCount = s.tsCount := rfl
@[simp] theorem tickFallsDue_fault (s : State) : (tickFallsDue s).fault = s.fault := rfl
@[simp] theorem tickFallsDue_refusals (s : State) : (tickFallsDue s).refusals = s.refusals := rfl
@[simp] theorem tickFallsDue_trace (s : State) : (tickFallsDue s).trace = s.trace := rfl
@[simp] theorem tickFallsDue_now (s : State) : (tickFallsDue s).now = s.now := rfl
@[simp] theorem tickFallsDue_sched (s : State) : (tickFallsDue s).sched = s.sched := rfl
@[simp] theorem tickFallsDue_draws (s : State) : (tickFallsDue s).draws = s.draws := rfl
@[simp] theorem agentOf_tickFallsDue (b' : Issuer) (s : State) : agentOf b' (tickFallsDue s) = agentOf b' s := by cases b' <;> rfl

/-! `keepTickDue` -/

@[simp] theorem keepTickDue_cfg (s : State) : (keepTickDue s).cfg = s.cfg := rfl
@[simp] theorem keepTickDue_busy (s : State) : (keepTickDue s).busy = s.busy := rfl
@[simp] theorem keepTickDue_pending (s : State) : (keepTickDue s).pending = s.pending := rfl
@[simp] theorem keepTickDue_pos (s : State) : (keepTickDue s).pos = s.pos := rfl
@[simp] theorem keepTickDue_tsCtrl (s : State) : (keepTickDue s).tsCtrl = s.tsCtrl := rfl
@[simp] theorem keepTickDue_tsPeriod (s : State) : (keepTickDue s).tsPeriod = s.tsPeriod := rfl
@[simp] theorem keepTickDue_line (s : State) : (keepTickDue s).line = s.line := rfl
@[simp] theorem keepTickDue_lineDriven (s : State) : (keepTickDue s).lineDriven = s.lineDriven := rfl
@[simp] theorem keepTickDue_inited (s : State) : (keepTickDue s).inited = s.inited := rfl
@[simp] theorem keepTickDue_gie (s : State) : (keepTickDue s).gie = s.gie := rfl
@[simp] theorem keepTickDue_tsDue (s : State) : (keepTickDue s).tsDue = true := rfl
@[simp] theorem keepTickDue_tsCount (s : State) : (keepTickDue s).tsCount = if s.cfg.level = .timed then 0 else s.tsCount := rfl
@[simp] theorem keepTickDue_fault (s : State) : (keepTickDue s).fault = s.fault := rfl
@[simp] theorem keepTickDue_refusals (s : State) : (keepTickDue s).refusals = s.refusals := rfl
@[simp] theorem keepTickDue_trace (s : State) : (keepTickDue s).trace = s.trace := rfl
@[simp] theorem keepTickDue_now (s : State) : (keepTickDue s).now = s.now := rfl
@[simp] theorem keepTickDue_sched (s : State) : (keepTickDue s).sched = s.sched := rfl
@[simp] theorem keepTickDue_draws (s : State) : (keepTickDue s).draws = s.draws := rfl
@[simp] theorem agentOf_keepTickDue (b' : Issuer) (s : State) : agentOf b' (keepTickDue s) = agentOf b' s := by cases b' <;> rfl

/-! `takeDue` -/

@[simp] theorem takeDue_cfg (s : State) : (takeDue s).cfg = s.cfg := rfl
@[simp] theorem takeDue_busy (s : State) : (takeDue s).busy = s.busy := rfl
@[simp] theorem takeDue_pending (s : State) : (takeDue s).pending = s.pending := rfl
@[simp] theorem takeDue_pos (s : State) : (takeDue s).pos = s.pos := rfl
@[simp] theorem takeDue_tsCtrl (s : State) : (takeDue s).tsCtrl = s.tsCtrl := rfl
@[simp] theorem takeDue_tsPeriod (s : State) : (takeDue s).tsPeriod = s.tsPeriod := rfl
@[simp] theorem takeDue_line (s : State) : (takeDue s).line = s.line := rfl
@[simp] theorem takeDue_lineDriven (s : State) : (takeDue s).lineDriven = s.lineDriven := rfl
@[simp] theorem takeDue_inited (s : State) : (takeDue s).inited = s.inited := rfl
@[simp] theorem takeDue_gie (s : State) : (takeDue s).gie = s.gie := rfl
@[simp] theorem takeDue_tsDue (s : State) : (takeDue s).tsDue = false := rfl
@[simp] theorem takeDue_tsCount (s : State) : (takeDue s).tsCount = s.tsCount := rfl
@[simp] theorem takeDue_fault (s : State) : (takeDue s).fault = s.fault := rfl
@[simp] theorem takeDue_refusals (s : State) : (takeDue s).refusals = s.refusals := rfl
@[simp] theorem takeDue_trace (s : State) : (takeDue s).trace = s.trace := rfl
@[simp] theorem takeDue_now (s : State) : (takeDue s).now = s.now := rfl
@[simp] theorem takeDue_sched (s : State) : (takeDue s).sched = s.sched := rfl
@[simp] theorem takeDue_draws (s : State) : (takeDue s).draws = s.draws := rfl
@[simp] theorem agentOf_takeDue (b' : Issuer) (s : State) : agentOf b' (takeDue s) = agentOf b' s := by cases b' <;> rfl

/-! The agents under `setAgent` and the operations built on it -/

@[simp] theorem agentOf_setAgent_self (a : Issuer) (g : Agent) (s : State) : agentOf a (setAgent a g s) = g := by cases a <;> rfl
theorem agentOf_setAgent_other {a b : Issuer} (h : b ≠ a) (g : Agent) (s : State) : agentOf b (setAgent a g s) = agentOf b s := by
  cases a <;> cases b <;> first | rfl | exact absurd rfl h
@[simp] theorem agentOf_advance_self (a : Issuer) (s : State) :
    agentOf a (advance a s) = { agentOf a s with ops := (agentOf a s).ops.tail } := by cases a <;> rfl
theorem agentOf_advance_other {a b : Issuer} (h : b ≠ a) (s : State) : agentOf b (advance a s) = agentOf b s :=
  agentOf_setAgent_other h _ s
@[simp] theorem agentOf_stopAgent_self (a : Issuer) (s : State) :
    agentOf a (stopAgent a s) = { agentOf a s with stopped := true } := by cases a <;> rfl
theorem agentOf_stopAgent_other {a b : Issuer} (h : b ≠ a) (s : State) : agentOf b (stopAgent a s) = agentOf b s :=
  agentOf_setAgent_other h _ s
@[simp] theorem agentOf_raiseFault_self (a : Issuer) (c : FaultCode) (s : State) :
    agentOf a (raiseFault a c s) = { agentOf a s with stopped := true } := by cases a <;> rfl
theorem agentOf_raiseFault_other {a b : Issuer} (h : b ≠ a) (c : FaultCode) (s : State) :
    agentOf b (raiseFault a c s) = agentOf b s := by
  cases a <;> cases b <;> first | rfl | exact absurd rfl h
@[simp] theorem agentOf_refuse_self (a : Issuer) (r : RefusalReason) (s : State) :
    agentOf a (refuse a r s) = { agentOf a s with stopped := true } := by cases a <;> rfl
theorem agentOf_refuse_other {a b : Issuer} (h : b ≠ a) (r : RefusalReason) (s : State) :
    agentOf b (refuse a r s) = agentOf b s := by
  cases a <;> cases b <;> first | rfl | exact absurd rfl h

/-! `takeMove`: only the scheduler's own fields change -/

@[simp] theorem takeMove_cfg (s : State) : (takeMove s).cfg = s.cfg := by unfold takeMove; split <;> rfl
@[simp] theorem takeMove_busy (s : State) : (takeMove s).busy = s.busy := by unfold takeMove; split <;> rfl
@[simp] theorem takeMove_pending (s : State) : (takeMove s).pending = s.pending := by unfold takeMove; split <;> rfl
@[simp] theorem takeMove_pos (s : State) : (takeMove s).pos = s.pos := by unfold takeMove; split <;> rfl
@[simp] theorem takeMove_tsCtrl (s : State) : (takeMove s).tsCtrl = s.tsCtrl := by unfold takeMove; split <;> rfl
@[simp] theorem takeMove_tsPeriod (s : State) : (takeMove s).tsPeriod = s.tsPeriod := by unfold takeMove; split <;> rfl
@[simp] theorem takeMove_line (s : State) : (takeMove s).line = s.line := by unfold takeMove; split <;> rfl
@[simp] theorem takeMove_lineDriven (s : State) : (takeMove s).lineDriven = s.lineDriven := by unfold takeMove; split <;> rfl
@[simp] theorem takeMove_inited (s : State) : (takeMove s).inited = s.inited := by unfold takeMove; split <;> rfl
@[simp] theorem takeMove_gie (s : State) : (takeMove s).gie = s.gie := by unfold takeMove; split <;> rfl
@[simp] theorem takeMove_tsDue (s : State) : (takeMove s).tsDue = s.tsDue := by unfold takeMove; split <;> rfl
@[simp] theorem takeMove_tsCount (s : State) : (takeMove s).tsCount = s.tsCount := by unfold takeMove; split <;> rfl
@[simp] theorem takeMove_fault (s : State) : (takeMove s).fault = s.fault := by unfold takeMove; split <;> rfl
@[simp] theorem takeMove_refusals (s : State) : (takeMove s).refusals = s.refusals := by unfold takeMove; split <;> rfl
@[simp] theorem takeMove_trace (s : State) : (takeMove s).trace = s.trace := by unfold takeMove; split <;> rfl
@[simp] theorem takeMove_now (s : State) : (takeMove s).now = s.now := by unfold takeMove; split <;> rfl
@[simp] theorem agentOf_takeMove (a : Issuer) (s : State) : agentOf a (takeMove s) = agentOf a s := by
  unfold takeMove; split <;> cases a <;> rfl

/-! `overrun`: only `TS_DUE` and `TS_COUNT` change -/

@[simp] theorem overrun_cfg (s t : State) : (overrun s t).cfg = t.cfg := by unfold overrun; split <;> rfl
@[simp] theorem overrun_busy (s t : State) : (overrun s t).busy = t.busy := by unfold overrun; split <;> rfl
@[simp] theorem overrun_pending (s t : State) : (overrun s t).pending = t.pending := by unfold overrun; split <;> rfl
@[simp] theorem overrun_pos (s t : State) : (overrun s t).pos = t.pos := by unfold overrun; split <;> rfl
@[simp] theorem overrun_tsCtrl (s t : State) : (overrun s t).tsCtrl = t.tsCtrl := by unfold overrun; split <;> rfl
@[simp] theorem overrun_tsPeriod (s t : State) : (overrun s t).tsPeriod = t.tsPeriod := by unfold overrun; split <;> rfl
@[simp] theorem overrun_line (s t : State) : (overrun s t).line = t.line := by unfold overrun; split <;> rfl
@[simp] theorem overrun_lineDriven (s t : State) : (overrun s t).lineDriven = t.lineDriven := by unfold overrun; split <;> rfl
@[simp] theorem overrun_inited (s t : State) : (overrun s t).inited = t.inited := by unfold overrun; split <;> rfl
@[simp] theorem overrun_gie (s t : State) : (overrun s t).gie = t.gie := by unfold overrun; split <;> rfl
@[simp] theorem overrun_fault (s t : State) : (overrun s t).fault = t.fault := by unfold overrun; split <;> rfl
@[simp] theorem overrun_refusals (s t : State) : (overrun s t).refusals = t.refusals := by unfold overrun; split <;> rfl
@[simp] theorem overrun_trace (s t : State) : (overrun s t).trace = t.trace := by unfold overrun; split <;> rfl
@[simp] theorem overrun_now (s t : State) : (overrun s t).now = t.now := by unfold overrun; split <;> rfl
@[simp] theorem overrun_sched (s t : State) : (overrun s t).sched = t.sched := by unfold overrun; split <;> rfl
@[simp] theorem overrun_draws (s t : State) : (overrun s t).draws = t.draws := by unfold overrun; split <;> rfl
@[simp] theorem agentOf_overrun (a : Issuer) (s t : State) : agentOf a (overrun s t) = agentOf a t := by
  unfold overrun; split <;> cases a <;> rfl

end Sys2Proof.Machine
end

