-- ==== Sys2Proof/Laws/Meanings.lean ====
section
/-! SUPPORT. One lemma per meaning that says once everything it can do, and the cases of the delivered TICK. -/

namespace Sys2Proof.Machine

/-- Every meaning answers a next state: a fault of the spec is a recorded state, not a stop (R151). -/
theorem exec_answers (i : Instr) (s : State) : ∃ t, exec i s = .next t := by
  cases i with
  | init => simp only [exec, execInit]; split; exact ⟨_, rfl⟩; split <;> exact ⟨_, rfl⟩
  | send b => simp only [exec, execSend]; split; exact ⟨_, rfl⟩; split <;> exact ⟨_, rfl⟩
  | tick => simp only [exec, execTick]; split <;> exact ⟨_, rfl⟩
  | tsStart => exact ⟨_, rfl⟩
  | tsStop => exact ⟨_, rfl⟩
  | ei => exact ⟨_, rfl⟩
  | di => exact ⟨_, rfl⟩

theorem execInit_cases {s t : State} (h : execInit s = .next t) :
    (s.inited = true ∧ t = raiseFault .fg .initTwice s) ∨
    (s.inited = false ∧ s.gie = true ∧ t = raiseFault .fg .initUnmasked s) ∨
    (s.inited = false ∧ s.gie = false ∧ t = initTransmitter s) := by
  unfold execInit at h
  split at h
  next hi => exact .inl ⟨hi, by cases h; rfl⟩
  next hi =>
    split at h
    next hg => exact .inr (.inl ⟨by simpa using hi, hg, by cases h; rfl⟩)
    next hg => exact .inr (.inr ⟨by simpa using hi, by simpa using hg, by cases h; rfl⟩)

theorem execSend_cases {b : Byte} {s t : State} (h : execSend b s = .next t) :
    (s.inited = false ∧ t = raiseFault .fg .sendBeforeInit s) ∨
    (s.inited = true ∧ s.busy = true ∧ t = s) ∨
    (s.inited = true ∧ s.busy = false ∧ t = sendCommit b s) := by
  unfold execSend at h
  split at h
  next hi => exact .inl ⟨by simpa using hi, by cases h; rfl⟩
  next hi =>
    split at h
    next hb => exact .inr (.inl ⟨by simpa using hi, hb, by cases h; rfl⟩)
    next hb => exact .inr (.inr ⟨by simpa using hi, by simpa using hb, by cases h; rfl⟩)

theorem execTick_cases {s t : State} (h : execTick s = .next t) :
    (deliveryEnabled s = true ∧ t = deliverTick s) ∨ (deliveryEnabled s = false ∧ t = s) := by
  unfold execTick at h
  split at h
  next hd => exact .inl ⟨hd, by cases h; rfl⟩
  next hd => exact .inr ⟨by simpa using hd, by cases h; rfl⟩

/-- What a delivered TICK does, position by position (R121 to R126). -/
theorem deliverTick_cases (s : State) :
    (s.pos.toNat = 0 ∧ deliverTick s = finishTick (tickStartBit (takeDue s))) ∨
    (1 ≤ s.pos.toNat ∧ s.pos.toNat ≤ 8 ∧ deliverTick s = finishTick (tickDataBit (takeDue s))) ∨
    (s.pos.toNat = 9 ∧ deliverTick s = finishTick (tickStopBit (takeDue s))) ∨
    (s.pos.toNat = 10 ∧ deliverTick s = finishTick (tickFinalize (takeDue s))) ∨
    (10 < s.pos.toNat ∧ deliverTick s = raiseFault .ts .posRange s) := by
  have hlt := s.pos.isLt
  unfold deliverTick
  by_cases h0 : s.pos = 0#4
  · rw [if_pos h0]; exact .inl ⟨by rw [h0]; rfl, rfl⟩
  rw [if_neg h0]
  have h0' : s.pos.toNat ≠ 0 := fun h => h0 (BitVec.eq_of_toNat_eq h)
  by_cases h8 : s.pos ≤ 8#4
  · rw [if_pos h8]
    have : s.pos.toNat ≤ 8 := by simpa [BitVec.le_def] using h8
    exact .inr (.inl ⟨by omega, this, rfl⟩)
  rw [if_neg h8]
  have h8' : ¬ s.pos.toNat ≤ 8 := by simpa [BitVec.le_def] using h8
  by_cases h9 : s.pos = 9#4
  · rw [if_pos h9]; exact .inr (.inr (.inl ⟨by rw [h9]; rfl, rfl⟩))
  rw [if_neg h9]
  have h9' : s.pos.toNat ≠ 9 := fun h => h9 (BitVec.eq_of_toNat_eq h)
  by_cases h10 : s.pos = 10#4
  · rw [if_pos h10]; exact .inr (.inr (.inr (.inl ⟨by rw [h10]; rfl, rfl⟩)))
  rw [if_neg h10]
  have h10' : s.pos.toNat ≠ 10 := fun h => h10 (BitVec.eq_of_toNat_eq h)
  exact .inr (.inr (.inr (.inr ⟨by omega, rfl⟩)))

theorem nextPos_toNat {k : Pos} (h : k.toNat < 15) : (nextPos k).toNat = k.toNat + 1 := by
  simp [nextPos, BitVec.toNat_add]; omega

/-! The time of a TICK is read before or after the TICK's own writes alike (R14) -/

@[simp] theorem tickTime_takeDue (s : State) : tickTime (takeDue s) = tickTime s := rfl
@[simp] theorem tickTime_tickStartBit (s : State) : tickTime (tickStartBit s) = tickTime s := rfl
@[simp] theorem tickTime_tickDataBit (s : State) : tickTime (tickDataBit s) = tickTime s := rfl
@[simp] theorem tickTime_tickStopBit (s : State) : tickTime (tickStopBit s) = tickTime s := rfl
@[simp] theorem tickTime_tickFinalize (s : State) : tickTime (tickFinalize s) = tickTime s := rfl
@[simp] theorem tickTime_takeMove (s : State) : tickTime (takeMove s) = tickTime s := by simp [tickTime]

theorem tickTime_timed {s : State} (h : s.cfg.level = .timed) : tickTime s = s.now - s.tsCount := by
  simp [tickTime, h]

@[simp] theorem agentOf_finishTick_other {b : Issuer} (h : b ≠ .ts) (s : State) :
    agentOf b (finishTick s) = agentOf b s := by
  cases b <;> first | rfl | exact absurd rfl h

/-- The driving clock runs and the tick interrupt is enabled when `TS_CTRL` is `0b11` (R25). -/
theorem running_fields {s : State} (h : s.tsCtrl = 0b11#2) :
    tickInterruptEnabled s = true ∧ drivingClockSelected s = true := by
  simp [tickInterruptEnabled, drivingClockSelected, h]

/-- Neither field is set when `TS_CTRL` is `0b00` (R25). -/
theorem stopped_fields {s : State} (h : s.tsCtrl = 0b00#2) :
    tickInterruptEnabled s = false ∧ drivingClockSelected s = false := by
  simp [tickInterruptEnabled, drivingClockSelected, h]

end Sys2Proof.Machine
end

