-- ==== Sys2Proof/Laws/Step.lean ====
section
/-! SUPPORT. What one step can do, said once: every invariant is read off these cases. -/

namespace Sys2Proof.Machine

theorem checkIssuer_none {a : Issuer} {i : Instr} : checkIssuer a i = none ↔ issuerOf i = some a := by
  unfold checkIssuer
  split
  next h => exact iff_of_true rfl h
  next h => split <;> exact iff_of_false (by simp) h

/-- The cases of one scheduled move that answers a next state. -/
inductive Moved : Move → State → State → Prop where
  /-- The move's agent has no step, or its move is not enabled. -/
  | idle {m : Move} {s t : State} (same : t = s) : Moved m s t
  /-- The agent's word was refused. -/
  | refused {m : Move} {s t : State} (a : Issuer) (r : RefusalReason) (turn : m = .issue a)
      (live : (agentOf a s).stopped = false) (result : t = refuse a r s) : Moved m s t
  /-- The agent's operation ran. -/
  | ran {m : Move} {s t : State} (a : Issuer) (w : OpWord) (i : Instr) (turn : m = .issue a)
      (live : (agentOf a s).stopped = false) (word : nextWord a s = some w) (decoded : decode w = .ok i)
      (issuer : issuerOf i = some a) (result : exec i s = .next t) : Moved m s t
  /-- TS had its turn, and the handler overran. -/
  | overran {m : Move} {s t : State} (u : State) (turn : m = .tickOverrun) (issued : Moved (.issue .ts) s u)
      (result : t = overrun s u) : Moved m s t
  /-- A tick fell due. -/
  | fellDue {m : Move} {s t : State} (turn : m = .due) (enabled : dueEnabled s = true) (result : t = tickFallsDue s) :
      Moved m s t
  /-- A driving-clock cycle passed. -/
  | cycled {m : Move} {s t : State} (turn : m = .cycle) (timed : s.cfg.level = .timed) (result : t = clockCycle s) :
      Moved m s t

theorem issueStep_moved {a : Issuer} {s t : State} (h : issueStep a s = .next t) : Moved (.issue a) s t := by
  unfold issueStep at h
  split at h
  · cases h; exact .idle rfl
  next hlive =>
    have hlive : (agentOf a s).stopped = false := by simpa using hlive
    split at h
    · cases h; exact .idle rfl
    next w hw =>
      unfold issueWord at h
      split at h
      next r hd => cases h; exact .refused a r rfl hlive rfl
      next i hd =>
        split at h
        next r hc => cases h; exact .refused a r rfl hlive rfl
        next hc => exact .ran a w i rfl hlive hw hd (checkIssuer_none.1 hc) h

theorem runMove_moved {m : Move} {s t : State} (h : runMove m s = .next t) : Moved m s t := by
  cases m with
  | issue a => exact issueStep_moved h
  | tickOverrun =>
    simp only [runMove, overrunStep] at h
    split at h
    next u hu => cases h; exact .overran u rfl (issueStep_moved hu) rfl
    · cases h
    · cases h
  | due =>
    simp only [runMove] at h
    split at h
    next hd => cases h; exact .fellDue rfl hd rfl
    next => cases h; exact .idle rfl
  | cycle =>
    simp only [runMove] at h
    split at h
    next ht => cases h; exact .cycled rfl ht rfl
    next => cases h; exact .idle rfl

theorem issueStep_answers (a : Issuer) (s : State) : ∃ t, issueStep a s = .next t := by
  simp only [issueStep, issueWord]
  split
  · exact ⟨_, rfl⟩
  split
  · exact ⟨_, rfl⟩
  split
  · exact ⟨_, rfl⟩
  split
  · exact ⟨_, rfl⟩
  exact exec_answers _ _

/-- A move never stops the machine: only the step's own checks do. -/
theorem runMove_answers (m : Move) (s : State) : ∃ t, runMove m s = .next t := by
  cases m with
  | issue a => exact issueStep_answers a s
  | tickOverrun =>
    obtain ⟨t, h⟩ := issueStep_answers .ts s
    exact ⟨overrun s t, by simp only [runMove, overrunStep, h]⟩
  | due => exact ⟨_, rfl⟩
  | cycle => exact ⟨_, rfl⟩

/-- A step that answers a next state: the configuration is well formed, some agent could step, and the scheduled move was taken. -/
theorem step_next {s t : State} :
    step s = .next t ↔ s.cfg.wellFormed = true ∧ someStepEnabled s = true ∧
      runMove (scheduledMove s) (takeMove s) = .next t := by
  unfold step scheduleStep
  cases hw : s.cfg.wellFormed <;> cases he : someStepEnabled s <;> simp

/-- The cases of one step. -/
theorem step_moved {s t : State} (h : step s = .next t) : Moved (scheduledMove s) (takeMove s) t :=
  runMove_moved (step_next.1 h).2.2

theorem scheduledMove_cons {s : State} {m : Move} {rest : List Move} (h : s.sched = m :: rest) :
    scheduledMove s = m ∧ takeMove s = { s with sched := rest } := by
  unfold scheduledMove takeMove; rw [h]; exact ⟨rfl, rfl⟩

/-- Three fields decide whether a TICK can be delivered (R120). -/
theorem deliveryEnabled_takeMove (s : State) : deliveryEnabled (takeMove s) = deliveryEnabled s := by
  simp [deliveryEnabled, tickInterruptEnabled]

theorem nextWord_takeMove (a : Issuer) (s : State) : nextWord a (takeMove s) = nextWord a s := by
  simp [nextWord]

theorem dueEnabled_takeMove (s : State) : dueEnabled (takeMove s) = dueEnabled s := by
  have := agentOf_takeMove .ts s
  simp only [agentOf] at this
  simp [dueEnabled, drivingClockSelected, this]

/-- `countCycle` changes only `TS_COUNT` and `TS_DUE`, and keeps a tick that is due (R27). -/
theorem countCycle_cases (s : State) :
    (periodCompletes s = true ∧ countCycle s = { s with tsCount := 0, tsDue := true }) ∨
    (periodCompletes s = false ∧ countCycle s = { s with tsCount := s.tsCount + 1 }) := by
  unfold countCycle
  cases h : periodCompletes s <;> simp

/-- A cycle moves the clock, and the counter where the tick source counts (R27). -/
theorem clockCycle_cases (s : State) :
    (counting s = true ∧ clockCycle s = countCycle { s with now := s.now + 1 }) ∨
    (counting s = false ∧ clockCycle s = { s with now := s.now + 1 }) := by
  unfold clockCycle
  cases h : counting s <;> simp

end Sys2Proof.Machine
end

