-- ==== Sys2Proof/Laws/Effects.lean ====
section
/-! SUPPORT. What one step does to the block, said once in the block's own terms: nothing, INIT, a SEND commit, a delivered TICK, EI or DI, a tick falling due, or a clock cycle. -/

namespace Sys2Proof.Safety

open Sys2Proof.Machine

theorem SameBlock.trans {s t u : State} (h : SameBlock s t) (g : SameBlock t u) : SameBlock s u where
  busy := g.busy.trans h.busy
  pending := g.pending.trans h.pending
  pos := g.pos.trans h.pos
  tsCtrl := g.tsCtrl.trans h.tsCtrl
  tsPeriod := g.tsPeriod.trans h.tsPeriod
  line := g.line.trans h.line
  lineDriven := g.lineDriven.trans h.lineDriven
  inited := g.inited.trans h.inited
  gie := g.gie.trans h.gie
  tsDue := g.tsDue.trans h.tsDue
  tsCount := g.tsCount.trans h.tsCount
  trace := g.trace.trans h.trace
  now := g.now.trans h.now
  cfg := g.cfg.trans h.cfg

/-- Taking the scheduled move off the schedule changes nothing of the block. -/
theorem sameBlock_takeMove (s : State) : SameBlock s (takeMove s) := by constructor <;> simp

/-- A refusal changes nothing of the block (R158). -/
theorem sameBlock_refuse (a : Issuer) (r : RefusalReason) (s : State) : SameBlock s (refuse a r s) := by
  constructor <;> simp

/-- A fault changes nothing of the block but `FAULT` (R151). -/
theorem sameBlock_raiseFault (a : Issuer) (c : FaultCode) (s : State) : SameBlock s (raiseFault a c s) := by
  constructor <;> simp

/-- INIT without a fault, field by field (R100, R14). -/
theorem initTransmitter_eq (s : State) :
    initTransmitter s = { s with
      lineDriven := true, line := true, tsPeriod := s.cfg.period, tsCtrl := 0b00#2, inited := true,
      trace := if s.line = true ∧ s.lineDriven = true then s.trace
        else s.trace ++ [{ obs := .level true, time := s.now }],
      fg := { s.fg with ops := s.fg.ops.tail } } := by
  unfold initTransmitter recordLineChange
  by_cases h : s.line = true ∧ s.lineDriven = true
  · simp [h.1, h.2, lineDrive, advance, setAgent, agentOf, tsStop, tsCtrlStopped]
  · simp [h, lineDrive, advance, setAgent, agentOf, tsStop, tsCtrlStopped, record]

/-- A cycle moves the clock by one; it writes `TS_COUNT` and `TS_DUE` only while the tick source counts, and it keeps a tick
that is due (R27). -/
theorem clockCycle_fields (s : State) :
    ∃ c d, clockCycle s = { s with now := s.now + 1, tsCount := c, tsDue := d } ∧ (s.tsDue = true → d = true) ∧
      (d ≠ s.tsDue ∨ c ≠ s.tsCount → counting s = true) := by
  rcases clockCycle_cases s with ⟨h, e⟩ | ⟨h, e⟩
  · rcases countCycle_cases { s with now := s.now + 1 } with ⟨-, f⟩ | ⟨-, f⟩
    · exact ⟨0, true, by rw [e, f], fun _ => rfl, fun _ => h⟩
    · exact ⟨s.tsCount + 1, s.tsDue, by rw [e, f], id, fun _ => h⟩
  · exact ⟨s.tsCount, s.tsDue, e, id, fun g => by simp at g⟩

/-- What one step does to the block. -/
inductive StepEffect (s t : State) : Prop where
  /-- A fault, a refusal, a hold, or a move that is not enabled. -/
  | same (h : SameBlock s t)
  | init (fresh : s.inited = false) (masked : s.gie = false) (turn : scheduledMove s = .issue .fg)
      (result : t = initTransmitter (takeMove s))
  | commit (b : Byte) (inited : s.inited = true) (idle : s.busy = false) (turn : scheduledMove s = .issue .fg)
      (result : t = sendCommit b (takeMove s))
  | tick (enabled : deliveryEnabled s = true) (turn : turnOf (scheduledMove s) = some .ts)
      (result : t = deliverTick (takeMove s))
  /-- The finalize TICK, with a tick kept due. -/
  | tickKept (enabled : deliveryEnabled s = true) (turn : scheduledMove s = .tickOverrun) (last : s.pos = 10#4)
      (result : t = keepTickDue (deliverTick (takeMove s)))
  | gie (g : Bool) (turn : scheduledMove s = .issue .host) (words : s.host.ops ≠ [])
      (result : t = advance .host { takeMove s with gie := g })
  | due (enabled : dueEnabled s = true) (turn : scheduledMove s = .due) (result : t = tickFallsDue (takeMove s))
  | cycle (timed : s.cfg.level = .timed) (turn : scheduledMove s = .cycle) (result : t = clockCycle (takeMove s))

/-- HOST has a word to issue in its turn, since only TS issues without one (R120). -/
theorem host_words_ne_nil {s : State} {w : OpWord} (h : nextWord .host (takeMove s) = some w) : s.host.ops ≠ [] := by
  intro e
  rw [nextWord_takeMove] at h
  simp [nextWord, agentOf, e] at h

/-- An overrun changes nothing where no finalize TICK ran (R104). -/
theorem overrun_cases (s t : State) :
    overrun s t = t ∨ (s.pos = 10#4 ∧ t.pos = 0#4 ∧ overrun s t = keepTickDue t) := by
  unfold overrun
  split
  next h => exact .inr ⟨h.1, h.2, rfl⟩
  next => exact .inl rfl

/-- What TS does in its turn: nothing that shows in the block, or a delivered TICK. -/
theorem ts_turn_effect {s t : State} (h : Moved (.issue .ts) s t) :
    SameBlock s t ∨ (deliveryEnabled s = true ∧ t = deliverTick s) := by
  cases h with
  | idle e => subst e; exact .inl (by constructor <;> rfl)
  | refused a r _ _ e => subst e; exact .inl (sameBlock_refuse _ _ _)
  | ran a w i turn _ _ _ issuer e =>
    cases turn
    cases i with
    | tick =>
      rcases execTick_cases e with ⟨g, rfl⟩ | ⟨_, rfl⟩
      · exact .inr ⟨g, rfl⟩
      · exact .inl (by constructor <;> rfl)
    | _ => cases issuer
  | overran _ turn => cases turn
  | fellDue turn => cases turn
  | cycled turn => cases turn

theorem step_effect {s t : State} (h : step s = .next t) : StepEffect s t := by
  have hs := sameBlock_takeMove s
  cases step_moved h with
  | overran u turn issued e =>
    have hturn : turnOf (scheduledMove s) = some .ts := by rw [turn]; rfl
    rcases ts_turn_effect issued with g | ⟨g, rfl⟩
    · rcases overrun_cases (takeMove s) u with k | ⟨k1, k2, -⟩
      · rw [e, k]; exact .same (hs.trans g)
      · rw [g.pos, k1] at k2; cases k2
    · rw [deliveryEnabled_takeMove] at g
      rcases overrun_cases (takeMove s) (deliverTick (takeMove s)) with k | ⟨k1, -, k2⟩
      · exact .tick g hturn (e.trans k)
      · exact .tickKept g turn (by simpa using k1) (e.trans k2)
  | idle e => subst e; exact .same hs
  | refused a r _ _ e => subst e; exact .same (hs.trans (sameBlock_refuse _ _ _))
  | fellDue turn enabled e => exact .due (by rwa [dueEnabled_takeMove] at enabled) turn e
  | cycled turn timed e => exact .cycle (by simpa using timed) turn e
  | ran a w i turn _ word _ issuer e =>
    cases i with
    | init =>
      cases issuer
      rcases execInit_cases e with ⟨_, rfl⟩ | ⟨_, _, rfl⟩ | ⟨g1, g2, rfl⟩
      · exact .same (hs.trans (sameBlock_raiseFault _ _ _))
      · exact .same (hs.trans (sameBlock_raiseFault _ _ _))
      · exact .init (by simpa using g1) (by simpa using g2) turn rfl
    | send b =>
      cases issuer
      rcases execSend_cases e with ⟨_, rfl⟩ | ⟨_, _, rfl⟩ | ⟨g1, g2, rfl⟩
      · exact .same (hs.trans (sameBlock_raiseFault _ _ _))
      · exact .same hs
      · exact .commit b (by simpa using g1) (by simpa using g2) turn rfl
    | tick =>
      cases issuer
      rcases execTick_cases e with ⟨g, rfl⟩ | ⟨_, rfl⟩
      · exact .tick (by rwa [deliveryEnabled_takeMove] at g) (by rw [turn]; rfl) rfl
      · exact .same hs
    | tsStart => cases issuer
    | tsStop => cases issuer
    | ei => cases issuer; cases e; exact .gie true turn (host_words_ne_nil word) rfl
    | di => cases issuer; cases e; exact .gie false turn (host_words_ne_nil word) rfl

/-- An operation leaves every agent but its issuer as it was (R75). -/
theorem exec_agentOf_other {i : Instr} {s t : State} {a b : Issuer} (h : exec i s = .next t)
    (hi : issuerOf i = some a) (hb : b ≠ a) : agentOf b t = agentOf b s := by
  cases i with
  | init =>
    cases hi
    rcases execInit_cases h with ⟨_, rfl⟩ | ⟨_, _, rfl⟩ | ⟨_, _, rfl⟩
    · exact agentOf_raiseFault_other hb _ _
    · exact agentOf_raiseFault_other hb _ _
    · rw [initTransmitter_eq]; cases b <;> first | rfl | exact absurd rfl hb
  | send x =>
    cases hi
    rcases execSend_cases h with ⟨_, rfl⟩ | ⟨_, _, rfl⟩ | ⟨_, _, rfl⟩
    · exact agentOf_raiseFault_other hb _ _
    · rfl
    · exact (agentOf_advance_other hb _).trans (by simp)
  | tick =>
    cases hi
    rcases execTick_cases h with ⟨_, rfl⟩ | ⟨_, rfl⟩
    · rcases deliverTick_cases s with ⟨_, e⟩ | ⟨_, _, e⟩ | ⟨_, e⟩ | ⟨_, e⟩ | ⟨_, e⟩ <;> rw [e]
      · rw [agentOf_finishTick_other hb]; cases b <;> rfl
      · rw [agentOf_finishTick_other hb]; cases b <;> rfl
      · rw [agentOf_finishTick_other hb]; cases b <;> rfl
      · rw [agentOf_finishTick_other hb]; cases b <;> rfl
      · exact agentOf_raiseFault_other hb _ _
    · rfl
  | tsStart => cases hi
  | tsStop => cases hi
  | ei => cases hi; cases h; cases b <;> first | rfl | exact absurd rfl hb
  | di => cases hi; cases h; cases b <;> first | rfl | exact absurd rfl hb

/-- A move leaves every agent but the one whose turn it is as it was (R10). -/
theorem moved_agentOf_other {m : Move} {s t : State} {b : Issuer} (h : Moved m s t) (hb : turnOf m ≠ some b) :
    agentOf b t = agentOf b s := by
  induction h with
  | idle e => rw [e]
  | refused a r turn _ e =>
    subst turn
    rw [e]; exact agentOf_refuse_other (fun k => hb (by rw [k]; rfl)) _ _
  | ran a w i turn _ _ _ issuer e =>
    subst turn
    exact exec_agentOf_other e issuer (fun k => hb (by rw [k]; rfl))
  | overran u turn _ e ih =>
    subst turn
    rw [e, agentOf_overrun]; exact ih hb
  | fellDue _ _ e => rw [e]; simp
  | cycled _ _ e =>
    obtain ⟨_, _, f, -⟩ := clockCycle_fields _
    rw [e, f]; cases b <;> rfl

/-- The same of a step. -/
theorem step_agentOf_other {s t : State} {b : Issuer} (h : step s = .next t)
    (hb : turnOf (scheduledMove s) ≠ some b) : agentOf b t = agentOf b s :=
  (moved_agentOf_other (step_moved h) hb).trans (agentOf_takeMove b s)

/-- The turn of an agent: the step takes the agent's word, and an overrun changes no agent (R75, R104). -/
theorem step_turn {s t : State} {a : Issuer} (h : step s = .next t) (ht : turnOf (scheduledMove s) = some a) :
    ∃ u, issueStep a (takeMove s) = .next u ∧ (t = u ∨ t = overrun (takeMove s) u) := by
  have hm := (step_next.1 h).2.2
  cases hs : scheduledMove s with
  | issue b =>
    rw [hs] at ht hm
    cases ht
    exact ⟨t, hm, .inl rfl⟩
  | tickOverrun =>
    rw [hs] at ht hm
    cases ht
    simp only [runMove, overrunStep] at hm
    split at hm
    next u hu => cases hm; exact ⟨u, hu, .inr rfl⟩
    · cases hm
    · cases hm
  | due => rw [hs] at ht; cases ht
  | cycle => rw [hs] at ht; cases ht

end Sys2Proof.Safety
end

