-- ==== Sys2Proof/Laws/PerInstr.lean ====
section
/-! SUPPORT. A statement per operation, as syntax: the fields of its word (spec/30_encoding.md R72, R74). -/

namespace Sys2Proof.Laws.WordFields

/-- The operation is well formed, and its word has the row's `OP`, `RSV = 0000`, and the operand (or `ZERO`) as its low byte. -/
def Statement (i : Instr) : Prop :=
  i.wellFormed = true ∧ opField (encode i) = opNumber i ∧ rsvField (encode i) = 0#4 ∧ dataField (encode i) = operandByte i

theorem init : Statement .init := by unfold Statement; decide
theorem send (data : Byte) : Statement (.send data) := by
  refine ⟨?_, ?_, ?_, ?_⟩
  · have := data.isLt
    simp [Instr.wellFormed]; omega
  all_goals revert data; decide
theorem tick : Statement .tick := by unfold Statement; decide
theorem tsStart : Statement .tsStart := by unfold Statement; decide
theorem tsStop : Statement .tsStop := by unfold Statement; decide
theorem ei : Statement .ei := by unfold Statement; decide
theorem di : Statement .di := by unfold Statement; decide

end Sys2Proof.Laws.WordFields
end

