-- ==== Sys2Proof/Laws/Run.lean ====
section
/-! SUPPORT. Runs of several steps, taken apart and put together. -/

namespace Sys2Proof.Machine

/-- A run begins with its first step. -/
theorem run_of_step (M : Host.Core) {n : Nat} {s u : M.State} (h : M.step s = .next u) :
    M.run (n + 1) s = M.run n u := by
  rw [Host.Core.run, h]

/-- A run of `n + 1` steps that answers a next state is a step and a run of `n`. -/
theorem run_succ_cases (M : Host.Core) {n : Nat} {s t : M.State} (h : M.run (n + 1) s = .next t) :
    ∃ u, M.step s = .next u ∧ M.run n u = .next t := by
  rw [Host.Core.run] at h
  cases hs : M.step s <;> rw [hs] at h
  · exact ⟨_, rfl, h⟩
  · cases h
  · cases h

/-- A run of `n + m` steps is a run of `n` and then one of `m`. -/
theorem run_add (M : Host.Core) {n m : Nat} {s u : M.State} (h : M.run n s = .next u) :
    M.run (n + m) s = M.run m u := by
  induction n generalizing s with
  | zero => cases h; rw [Nat.zero_add]
  | succ n ih =>
    obtain ⟨v, h1, h2⟩ := run_succ_cases M h
    rw [Nat.add_right_comm, run_of_step M h1, ih h2]

/-- The two facts above for this machine, in terms of `step`. -/
theorem coreRun_of_step {n : Nat} {s u : State} (h : step s = .next u) :
    Sys2Proof.core.run (n + 1) s = Sys2Proof.core.run n u :=
  run_of_step Sys2Proof.core h

theorem coreRun_succ_cases {n : Nat} {s t : State} (h : Sys2Proof.core.run (n + 1) s = .next t) :
    ∃ u, step s = .next u ∧ Sys2Proof.core.run n u = .next t :=
  run_succ_cases Sys2Proof.core h

end Sys2Proof.Machine
end

