-- ==== Sys2Proof/Laws/Sets.lean ====
section
/-! SUPPORT. The set operation behind `FAULT` and the refusal reasons: what it holds, and that it keeps the canonical form. -/

namespace Sys2Proof.Machine

variable {α : Type} (rank : α → Nat)

/-- Nothing is lost from the set. -/
theorem subset_insertRanked (a : α) (l : List α) : l ⊆ insertRanked rank a l := by
  induction l with
  | nil => intro x hx; cases hx
  | cons b rest ih =>
    intro x hx
    unfold insertRanked
    split
    · exact List.mem_cons_of_mem _ hx
    · split
      · exact hx
      · rcases List.mem_cons.1 hx with rfl | hx
        · exact List.mem_cons_self
        · exact List.mem_cons_of_mem _ (ih hx)

/-- What the set holds afterwards is the new element or was there before. -/
theorem mem_insertRanked {a x : α} {l : List α} (h : x ∈ insertRanked rank a l) : x = a ∨ x ∈ l := by
  induction l with
  | nil => exact .inl (List.mem_singleton.1 h)
  | cons b rest ih =>
    unfold insertRanked at h
    split at h
    · exact List.mem_cons.1 h
    · split at h
      · exact .inr h
      · rcases List.mem_cons.1 h with rfl | h
        · exact .inr List.mem_cons_self
        · exact (ih h).imp id (List.mem_cons_of_mem _)

/-- The new element is held afterwards, where different elements have different ranks. -/
theorem insertRanked_mem_self (hr : ∀ x y, rank x = rank y → x = y) (a : α) (l : List α) :
    a ∈ insertRanked rank a l := by
  induction l with
  | nil => exact List.mem_singleton.2 rfl
  | cons b rest ih =>
    unfold insertRanked
    split
    · exact List.mem_cons_self
    · split
      next h => rw [hr a b h]; exact List.mem_cons_self
      next => exact List.mem_cons_of_mem _ ih

/-- The canonical form is kept. -/
theorem insertRanked_pairwise (a : α) {l : List α} (h : l.Pairwise (fun x y => rank x < rank y)) :
    (insertRanked rank a l).Pairwise (fun x y => rank x < rank y) := by
  induction l with
  | nil => exact List.pairwise_singleton _ _
  | cons b rest ih =>
    obtain ⟨hb, hrest⟩ := List.pairwise_cons.1 h
    unfold insertRanked
    split
    next hlt =>
      refine List.pairwise_cons.2 ⟨fun x hx => ?_, h⟩
      rcases List.mem_cons.1 hx with rfl | hx
      · exact hlt
      · exact hlt.trans (hb x hx)
    next hlt =>
      split
      · exact h
      next hne =>
        refine List.pairwise_cons.2 ⟨fun x hx => ?_, ih hrest⟩
        rcases mem_insertRanked rank hx with rfl | hx
        · omega
        · exact hb x hx

theorem insertRanked_ne_nil (a : α) (l : List α) : insertRanked rank a l ≠ [] := by
  cases l with
  | nil => simp [insertRanked]
  | cons b rest =>
    unfold insertRanked
    split
    · simp
    · split <;> simp

theorem code_injective : ∀ x y : FaultCode, x.code = y.code → x = y := by
  intro x y h; cases x <;> cases y <;> first | rfl | cases h

theorem rank_injective : ∀ x y : RefusalReason, x.rank = y.rank → x = y := by
  intro x y h; cases x <;> cases y <;> first | rfl | cases h

end Sys2Proof.Machine
end

