-- ==== Sys2Proof/Tests/Slice0.lean ====
section
/-! SUPPORT. The model's own tests: words written out from the spec's encoding, one step per operation from spec/95_test_vectors.md, what is refused as ill formed, and a witness for the hypotheses of every statement. -/

namespace Sys2Proof.Tests

open Sys2Proof Sys2Proof.Machine Sys2Proof.Safety

/-! ## Decoding: words written bit by bit from R72 and R74 (spec/95_test_vectors.md section 2.1) -/

theorem test_decode_init : decode 0b0001000000000000#16 = .ok .init := by decide
theorem test_decode_send : decode 0b0010000000110001#16 = .ok (.send 0x31#8) := by decide
theorem test_decode_send_largest : decode 0b0010000011111111#16 = .ok (.send 0xFF#8) := by decide
theorem test_decode_tick : decode 0b0011000000000000#16 = .ok .tick := by decide
theorem test_decode_tsStart : decode 0b0100000000000000#16 = .ok .tsStart := by decide
theorem test_decode_tsStop : decode 0b0101000000000000#16 = .ok .tsStop := by decide
theorem test_decode_ei : decode 0b0110000000000000#16 = .ok .ei := by decide
theorem test_decode_di : decode 0b0111000000000000#16 = .ok .di := by decide

theorem test_decode_reserved_op :
    decode 0x0000#16 = .error .reservedOp ∧ decode 0x8000#16 = .error .reservedOp ∧
    decode 0xF000#16 = .error .reservedOp := by decide
theorem test_decode_reserved_bits :
    decode 0xFFFF#16 = .error .reservedBits ∧ decode 0x0F00#16 = .error .reservedBits ∧
    decode 0x1001#16 = .error .reservedBits ∧ decode 0x2100#16 = .error .reservedBits ∧
    decode 0x3080#16 = .error .reservedBits ∧ decode 0x7001#16 = .error .reservedBits := by decide

/-- The words of R74 again, now from the encoder. -/
theorem test_encode :
    encode .init = 0x1000#16 ∧ encode (.send 0xA5#8) = 0x20A5#16 ∧ encode .tick = 0x3000#16 ∧
    encode .tsStart = 0x4000#16 ∧ encode .tsStop = 0x5000#16 ∧ encode .ei = 0x6000#16 ∧
    encode .di = 0x7000#16 := by decide

theorem test_decodeTableWord :
    decodeTableWord 16 0x2031 = some (.send 0x31#8) ∧ decodeTableWord 16 0x7000 = some .di ∧
    decodeTableWord 16 0x7001 = none := by decide

/-! ## Well-formedness (spec/95_test_vectors.md section 2.2)
No operation is ill formed: SEND's operand is a byte by its type (R73). What can be ill formed is the configuration. -/

theorem test_wellFormed_operations :
    (Instr.send 0xFF#8).wellFormed = true ∧ Instr.init.wellFormed = true ∧ Instr.tick.wellFormed = true := by decide
theorem test_wellFormed_period_zero :
    Config.wellFormed { lineId := 0, fDrv := 4800, baud := 9600, periodMax := 65535, level := .untimed } = false := by
  decide
theorem test_wellFormed_period_above_max :
    Config.wellFormed { lineId := 0, fDrv := 16000000, baud := 1, periodMax := 65535, level := .untimed } = false := by
  decide
theorem test_wellFormed_corner :
    Config.wellFormed { lineId := 0, fDrv := 9600, baud := 9600, periodMax := 1, level := .timed } = true := by decide

/-! ## States and answers -/

/-- The step answers a next state. -/
def answers (o : Host.Outcome State Fault Refusal) (p : State → Bool) : Bool :=
  match o with
  | .next t => p t
  | .fault _ => false
  | .refused _ => false

/-- `[1 1 0 0 0 00 0 1 1]`: after INIT and EI. -/
def ready : State :=
  { State.reset with inited := true, lineDriven := true, line := true, tsPeriod := 1666, gie := true }

/-- A frame of `0xA5` at position `k`, with a tick due. -/
def flight (k : Pos) : State :=
  { ready with busy := true, pending := 0xA5#8, pos := k, tsCtrl := 0b11#2, tsDue := true,
               line := lineAt 0xA5#8 k.toNat }

/-- Give FG words, and the turn. -/
def fgTurn (ws : List OpWord) (s : State) : State :=
  { s with fg := { ops := ws, stopped := false }, sched := [.issue .fg] }

/-- Give HOST words, and the turn. -/
def hostTurn (ws : List OpWord) (s : State) : State :=
  { s with host := { ops := ws, stopped := false }, sched := [.issue .host] }

/-- Schedule one move. -/
def turn (m : Move) (s : State) : State := { s with sched := [m] }

/-- A small timed configuration: `P = 3`. -/
def timedConfig : Config := { lineId := 0, fDrv := 7, baud := 2, periodMax := 65535, level := .timed }

/-- `[INITED GIE BUSY POS PENDING TS_CTRL TS_DUE LINE_DRIVEN LINE]`, the vector of spec/95_test_vectors.md. -/
def vector (s : State) : Bool × Bool × Bool × Pos × Byte × TsCtrl × Bool × Bool × Bool :=
  (s.inited, s.gie, s.busy, s.pos, s.pending, s.tsCtrl, s.tsDue, s.lineDriven, s.line)

/-! ## One step per operation (spec/95_test_vectors.md sections 2.3 to 2.8) -/

theorem test_init_from_reset :
    answers (exec .init (fgTurn [0x1000#16] State.reset)) (fun t =>
      vector t == (true, false, false, 0#4, 0#8, 0b00#2, false, true, true) && t.tsPeriod == 1666 &&
        obsOf t == [.level true]) = true := by decide
theorem test_init_twice_before_unmasked :
    answers (exec .init (flight 4#4)) (fun t =>
      t.fault == [.initTwice] && t.fg.stopped && vector t == vector (flight 4#4)) = true := by decide

theorem test_send_commit :
    answers (exec (.send 0x31#8) (fgTurn [0x2031#16] ready)) (fun t =>
      vector t == (true, true, true, 0#4, 0x31#8, 0b11#2, false, true, true) && t.fg.ops == []) = true := by decide
theorem test_send_hold :
    answers (exec (.send 0x41#8) (fgTurn [0x2041#16] (flight 4#4))) (fun t =>
      t == fgTurn [0x2041#16] (flight 4#4)) = true := by decide

/-- The table of section 2.6 for `PENDING = 0xA5`: `LINE`, `POS`, `BUSY` and `TS_CTRL` after the TICK. -/
theorem test_tick_table :
    ([(0#4, false, 1#4, true, 0b11#2), (1#4, true, 2#4, true, 0b11#2), (2#4, false, 3#4, true, 0b11#2),
      (3#4, true, 4#4, true, 0b11#2), (4#4, false, 5#4, true, 0b11#2), (5#4, false, 6#4, true, 0b11#2),
      (6#4, true, 7#4, true, 0b11#2), (7#4, false, 8#4, true, 0b11#2), (8#4, true, 9#4, true, 0b11#2),
      (9#4, true, 10#4, true, 0b11#2), (10#4, true, 0#4, false, 0b00#2)] : List (Pos × Bool × Pos × Bool × TsCtrl)).all
      (fun r => answers (exec .tick (flight r.1)) (fun t =>
        (t.line, t.pos, t.busy, t.tsCtrl) == r.2 && !t.tsDue)) = true := by decide
theorem test_tick_out_of_range :
    answers (exec .tick (flight 11#4)) (fun t =>
      t.fault == [.posRange] && vector t == vector (flight 11#4) && t.trace == []) = true := by decide

theorem test_tsStart : answers (exec .tsStart { ready with tsDue := true, tsCount := 100 }) (fun t =>
    t == { ready with tsDue := true, tsCount := 100, tsCtrl := 0b11#2 }) = true := by decide
theorem test_tsStop : answers (exec .tsStop (flight 4#4)) (fun t =>
    t == { flight 4#4 with tsCtrl := 0b00#2 }) = true := by decide

theorem test_ei : answers (exec .ei { ready with gie := false }) (fun t => t.gie) = true := by decide
theorem test_di : answers (exec .di ready) (fun t => !t.gie) = true := by decide

/-! ## The host's placing of one word: the next step runs it (log entry 5) -/

theorem test_place_init : answers (step (State.reset.withFetchWord 16 0x1000)) (fun t => t.inited) = true := by decide
theorem test_place_send :
    answers (step (State.reset.withFetchWord 16 0x2041)) (fun t => t.fault == [.sendBeforeInit]) = true := by decide
theorem test_place_tick :
    answers (step (State.reset.withFetchWord 16 0x3000)) (fun t => t.pos == 1#4) = true := by decide
theorem test_place_ei : answers (step (State.reset.withFetchWord 16 0x6000)) (fun t => t.gie) = true := by decide
theorem test_place_di : answers (step (State.reset.withFetchWord 16 0x7000)) (fun t => !t.gie) = true := by decide
/-- R75: TS_START and TS_STOP issued alone are refused as `WRONG_ISSUER`. -/
theorem test_place_internal :
    answers (step (State.reset.withFetchWord 16 0x4000)) (fun t => t.refusals == [.wrongIssuer]) = true ∧
    answers (step (State.reset.withFetchWord 16 0x5000)) (fun t => t.refusals == [.wrongIssuer]) = true := by decide

/-- R158: a configuration that is not well formed sets the mark with its reason (spec/95_test_vectors.md section 2.2). -/
theorem test_bad_config_mark :
    refusalReasons (State.resetWith { lineId := 0, fDrv := 4800, baud := 9600, periodMax := 65535, level := .untimed } PowerOn.named)
      = [.badConfig] ∧ refusalMark State.reset = false := by decide

/-! ## The assembler (R79) -/

theorem test_assembler_quote :
    assembleLine ['S', 'E', 'N', 'D', ' ', '\'', ';', '\''] = .ok [(.fg, 0x203B#16)] := by decide

/-! ## Witnesses: a concrete state and operands that meet the hypotheses of each statement, clause by clause -/

theorem ready_coherent : Coherent ready := by constructor <;> decide
theorem flight0_coherent : Coherent (flight 0#4) := by constructor <;> decide
theorem flight1_coherent : Coherent (flight 1#4) := by constructor <;> decide
theorem flight8_coherent : Coherent (flight 8#4) := by constructor <;> decide
theorem flight9_coherent : Coherent (flight 9#4) := by constructor <;> decide
theorem flight10_coherent : Coherent (flight 10#4) := by constructor <;> decide

theorem witness_DecodeAndEncodeAgree :
    (Instr.send 0xFF#8).wellFormed = true ∧ decode 0x20FF#16 = .ok (.send 0xFF#8) := by decide

theorem witness_DecodeFollowsTheOpcodeMap :
    decode 0x20FF#16 = .ok (.send 0xFF#8) ∧ (0x20FF#16 &&& 0xFF00#16 : OpWord) = 0x2000#16 := by decide

/-- Each clause, with `OP` at its bounds 0, 8 and 15, and the low byte at 0, 1 and 255. -/
theorem witness_DecodingOrderOfRefusals :
    (0x0F00#16).toNat / 256 % 16 = 15 ∧
    ((0x0FF#16).toNat / 256 % 16 = 0 ∧ (0x0FF#16).toNat / 4096 = 0) ∧
    ((0x8000#16).toNat / 256 % 16 = 0 ∧ (0x8000#16).toNat / 4096 = 8) ∧
    ((0xF0FF#16).toNat / 256 % 16 = 0 ∧ (0xF0FF#16).toNat / 4096 = 15) ∧
    ((0x20FF#16).toNat / 256 % 16 = 0 ∧ (0x20FF#16).toNat / 4096 = 2 ∧ (0x20FF#16).toNat % 256 = 255) ∧
    ((0x1000#16).toNat / 256 % 16 = 0 ∧ (0x1000#16).toNat / 4096 = 1 ∧ (0x1000#16).toNat % 256 = 0) ∧
    ((0x1001#16).toNat / 256 % 16 = 0 ∧ (0x1001#16).toNat / 4096 = 1 ∧ (0x1001#16).toNat % 256 = 1) ∧
    ((0x3080#16).toNat / 256 % 16 = 0 ∧ (0x3080#16).toNat / 4096 = 3) ∧
    ((0x4000#16).toNat / 256 % 16 = 0 ∧ (0x4000#16).toNat / 4096 = 4) ∧
    ((0x5000#16).toNat / 256 % 16 = 0 ∧ (0x5000#16).toNat / 4096 = 5) ∧
    ((0x6000#16).toNat / 256 % 16 = 0 ∧ (0x6000#16).toNat / 4096 = 6) ∧
    ((0x7001#16).toNat / 256 % 16 = 0 ∧ (0x7001#16).toNat / 4096 = 7) := by decide

/-- A SEND that commits, one that holds while another agent can step, and a TICK whose handler overruns. -/
theorem witness_StepRunsTheDecodedOperation :
    (let s := fgTurn [0x2031#16] ready
     s.cfg.wellFormed = true ∧ scheduledMove s = .issue .fg ∧ (agentOf .fg s).stopped = false ∧
       nextWord .fg s = some 0x2031#16 ∧ decode 0x2031#16 = .ok (.send 0x31#8) ∧
       holdsNow (.send 0x31#8) s = false ∧ someStepEnabled s = true) ∧
    (let s := fgTurn [0x2031#16] (flight 4#4)
     s.cfg.wellFormed = true ∧ scheduledMove s = .issue .fg ∧ (agentOf .fg s).stopped = false ∧
       nextWord .fg s = some 0x2031#16 ∧ holdsNow (.send 0x31#8) s = true ∧ someStepEnabled s = true) ∧
    (let s := turn .tickOverrun (flight 10#4)
     s.cfg.wellFormed = true ∧ scheduledMove s = .tickOverrun ∧ (agentOf .ts s).stopped = false ∧
       nextWord .ts s = some 0x3000#16 ∧ decode 0x3000#16 = .ok .tick ∧ holdsNow .tick s = false) ∧
    MayIssue .fg (.send 0x31#8) ∧ MayIssue .ts .tick :=
  ⟨by decide, by decide, by decide, rfl, rfl⟩

/-- HOST issuing SEND, an interrupt context issuing it, and TS issuing it (log entry 6). -/
theorem witness_WrongIssuerIsRefused :
    (let s := hostTurn [0x2031#16] ready
     s.cfg.wellFormed = true ∧ turnOf (scheduledMove s) = some .host ∧ (agentOf .host s).stopped = false ∧
       nextWord .host s = some 0x2031#16 ∧ decode 0x2031#16 = .ok (.send 0x31#8)) ∧
    (let s := turn (.issue .isr) { ready with isr := { ops := [0x2031#16], stopped := false } }
     turnOf (scheduledMove s) = some .isr ∧ (agentOf .isr s).stopped = false ∧ nextWord .isr s = some 0x2031#16) ∧
    (let s := turn (.issue .ts) { ready with ts := { ops := [0x2031#16], stopped := false } }
     turnOf (scheduledMove s) = some .ts ∧ (agentOf .ts s).stopped = false ∧ nextWord .ts s = some 0x2031#16 ∧
       issuerRefusal .ts (.send 0x31#8) = .secondContext) ∧
    ¬ MayIssue .host (.send 0x31#8) ∧ ¬ MayIssue .isr (.send 0x31#8) ∧ ¬ MayIssue .ts (.send 0x31#8) :=
  ⟨by decide, by decide, by decide, by simp [MayIssue], by simp [MayIssue], by simp [MayIssue]⟩

theorem witness_UndecodableWordIsRefused :
    let s := fgTurn [0x0F00#16] ready
    s.cfg.wellFormed = true ∧ turnOf (scheduledMove s) = some .fg ∧ (agentOf .fg s).stopped = false ∧
      nextWord .fg s = some 0x0F00#16 ∧ decode 0x0F00#16 = .error .reservedBits := by decide

/-- `P = 0`, `P = PERIOD_MAX + 1`, a state that steps, and the source's example. -/
theorem witness_BadConfigurationHasNoStep :
    ¬ (1 ≤ 4800 / 9600 ∧ 4800 / 9600 ≤ 65535) ∧ ¬ (1 ≤ 65536 / 1 ∧ 65536 / 1 ≤ 65535) ∧
    step (State.resetWith { lineId := 0, fDrv := 65536, baud := 1, periodMax := 65535, level := .timed } PowerOn.named)
      = .refused .badConfig ∧
    (∃ t, step (fgTurn [0x1000#16] State.reset) = .next t) ∧
    Config.sourceExample.fDrv = 16000000 ∧ Config.sourceExample.baud = 9600 :=
  ⟨by decide, by decide, rfl, ⟨_, rfl⟩, rfl, rfl⟩

/-- FG holds a SEND while interrupts are masked and HOST has nothing to issue (R188). -/
def maskedSend : State := fgTurn [0x2032#16] { flight 0#4 with gie := false }

/-- After INIT and EI nothing is left to do. -/
theorem ready_cannotStep : ¬ SomeAgentCanStep ready := by
  rintro (⟨a, -, w, ⟨h | ⟨rfl, -, rfl⟩, h2⟩⟩ | ⟨-, h, -⟩)
  · cases a <;> cases h
  · cases (h2 .tick rfl rfl).1
  · cases h

theorem maskedSend_cannotStep : ¬ SomeAgentCanStep maskedSend := by
  rintro (⟨a, -, w, ⟨h | ⟨rfl, -, rfl⟩, h2⟩⟩ | ⟨-, -, h⟩)
  · cases a <;> cases h
    rcases h2 (.send 0x32#8) rfl rfl with h | h <;> cases h
  · cases (h2 .tick rfl rfl).2.2
  · cases h rfl

/-- A state that steps, one where the run is over, one that is stuck, and a step that is refused. -/
theorem witness_MachineStopsOnlyWhereNoAgentCanStep :
    (ready.cfg.wellFormed = true ∧ ∃ t, step (fgTurn [0x2031#16] ready) = .next t) ∧
    (¬ SomeAgentCanStep ready ∧ Final ready) ∧
    (maskedSend.cfg.wellFormed = true ∧ Stuck maskedSend) ∧
    ∃ r, step (State.resetWith { Config.sourceExample with baud := 0 } PowerOn.named) = .refused r :=
  ⟨⟨rfl, _, rfl⟩, ⟨ready_cannotStep, rfl, rfl, rfl, rfl⟩, ⟨rfl, maskedSend_cannotStep, fun h => by cases h.1⟩, _, rfl⟩

theorem witness_FinalStateIsIdle : Coherent ready ∧ Final ready ∧ ready.inited = true :=
  ⟨ready_coherent, ⟨rfl, rfl, rfl, rfl⟩, rfl⟩

theorem witness_InitFollowsItsRule :
    ready.inited = true ∧ (State.reset.inited = false ∧ { State.reset with gie := true }.gie = true) ∧
    (State.reset.inited = false ∧ State.reset.gie = false) := by decide

theorem witness_SendWaitStep :
    State.reset.inited = false ∧ ((flight 4#4).inited = true ∧ (flight 4#4).busy = true) ∧
    (ready.inited = true ∧ ready.busy = false) ∧
    ∃ t, Coherent (turn (.issue .ts) (flight 10#4)) ∧ (flight 10#4).busy = true ∧
      step (turn (.issue .ts) (flight 10#4)) = .next t ∧ t.busy = false :=
  ⟨rfl, ⟨rfl, rfl⟩, ⟨rfl, rfl⟩, _, by constructor <;> decide, rfl, rfl, rfl⟩

theorem witness_SendCommits : ready.inited = true ∧ ready.busy = false := by decide
theorem witness_TsStartStartsTheTickSource : (flight 4#4).tsCtrl = 0b11#2 := by decide
theorem witness_TsStopIsIdempotent : ready.tsCtrl = 0b00#2 := by decide

theorem witness_TickStartBit :
    ((flight 0#4).tsDue = true ∧ tickInterruptEnabled (flight 0#4) = true ∧ (flight 0#4).gie = true ∧
      (flight 0#4).pos = 0#4) ∧ Coherent (flight 0#4) := ⟨by decide, flight0_coherent⟩

/-- At both ends of `1..8`. -/
theorem witness_TickDataBit :
    ((flight 1#4).tsDue = true ∧ tickInterruptEnabled (flight 1#4) = true ∧ (flight 1#4).gie = true ∧
      (flight 1#4).pos = BitVec.ofNat 4 1) ∧ Coherent (flight 1#4) ∧
    ((flight 8#4).tsDue = true ∧ tickInterruptEnabled (flight 8#4) = true ∧ (flight 8#4).gie = true ∧
      (flight 8#4).pos = BitVec.ofNat 4 8) ∧ Coherent (flight 8#4) :=
  ⟨by decide, flight1_coherent, by decide, flight8_coherent⟩

theorem witness_TickStopBit :
    ((flight 9#4).tsDue = true ∧ tickInterruptEnabled (flight 9#4) = true ∧ (flight 9#4).gie = true ∧
      (flight 9#4).pos = 9#4) ∧ Coherent (flight 9#4) := ⟨by decide, flight9_coherent⟩

theorem witness_TickFinalizes :
    ((flight 10#4).tsDue = true ∧ tickInterruptEnabled (flight 10#4) = true ∧ (flight 10#4).gie = true ∧
      (flight 10#4).pos = 10#4) ∧ Coherent (flight 10#4) := ⟨by decide, flight10_coherent⟩

/-- At both ends of `11..15`, and a step from position 10. -/
theorem witness_TickOutOfRangeFaults :
    (((flight 11#4).tsDue = true ∧ tickInterruptEnabled (flight 11#4) = true ∧ (flight 11#4).gie = true ∧
      10 < (flight 11#4).pos.toNat) ∧ 10 < (flight 15#4).pos.toNat) ∧
    (flight 10#4).pos.toNat ≤ 10 ∧ ∃ t, step (turn (.issue .ts) (flight 10#4)) = .next t :=
  ⟨by decide, by decide, _, rfl⟩

/-- The three ways not to be enabled. -/
theorem witness_TickIsNotDeliveredUnlessEnabled :
    ready.tsDue = false ∧ tickInterruptEnabled { ready with tsDue := true } = false ∧ maskedSend.gie = false := by
  decide

/-- A TICK that moves `POS` and `LINE`, one that clears `BUSY`, and one that clears it and keeps a tick due. -/
theorem witness_OnlyADeliveredTickMovesTheFrame :
    (∃ t, step (turn (.issue .ts) (flight 0#4)) = .next t ∧ t.pos ≠ 0#4 ∧ t.line ≠ (flight 0#4).line) ∧
    (∃ t, step (turn (.issue .ts) (flight 10#4)) = .next t ∧ t.busy = false) ∧
    (∃ t, step (turn .tickOverrun (flight 10#4)) = .next t ∧ t.busy = false ∧ t.tsDue = true) ∧
    (flight 10#4).busy = true ∧ (flight 0#4).inited = true :=
  ⟨⟨_, rfl, by decide, by decide⟩, ⟨_, rfl, rfl⟩, ⟨_, rfl, rfl, rfl⟩, rfl, rfl⟩

/-- Running with no tick due, running with one due, and stopped. -/
theorem witness_TickFallsDueAtTheUntimedLevel :
    (let s := turn .due { flight 4#4 with tsDue := false }
     s.cfg.wellFormed = true ∧ s.cfg.level = .untimed ∧ s.ts.stopped = false ∧ scheduledMove s = .due ∧
       drivingClockSelected s = true ∧ s.tsDue = false) ∧
    (let s := turn .due (flight 4#4)
     s.tsDue = true ∧ ∃ t, step s = .next t) ∧
    (let s := turn .due (fgTurn [0x2031#16] ready)
     drivingClockSelected s = false ∧ ∃ t, step s = .next t) :=
  ⟨by decide, ⟨rfl, _, rfl⟩, ⟨rfl, _, rfl⟩⟩

/-- The timed state with `P = 3`: a frame of `0xA5` just committed, `c` cycles counted. -/
def timedFlight (c : Nat) : State :=
  { flight 0#4 with cfg := timedConfig, tsPeriod := 3, tsDue := false, tsCount := c }

/-- The last tick of such a frame, due for `c` cycles. -/
def timedEnd (c : Nat) : State :=
  { flight 10#4 with cfg := timedConfig, tsPeriod := 3, tsCount := c, now := 33 + c }

theorem witness_ClockCycleCounts :
    (timedFlight 0).cfg.level = .timed ∧ (timedFlight 0).ts.stopped = false ∧
    drivingClockSelected { timedFlight 0 with tsCtrl := 0b00#2 } = false ∧
    drivingClockSelected (timedFlight 0) = true ∧ (timedFlight 1).tsCount + 1 < (timedFlight 1).tsPeriod ∧
    (timedFlight 2).tsCount + 1 = (timedFlight 2).tsPeriod := by decide

theorem witness_EiEnablesInterrupts :
    maskedSend.tsDue = true ∧ tickInterruptEnabled maskedSend = true := by decide

/-- Each clause's element changes under some operation. -/
theorem witness_OperationsWriteOnlyTheirElements :
    (∃ t, exec (.send 0x31#8) (fgTurn [0x2031#16] ready) = .next t ∧ t.busy ≠ ready.busy ∧
      t.pending ≠ ready.pending ∧ t.tsCtrl ≠ ready.tsCtrl ∧ t.fg ≠ (fgTurn [0x2031#16] ready).fg) ∧
    (∃ t, exec .tick (flight 10#4) = .next t ∧ t.busy ≠ (flight 10#4).busy ∧ t.pos ≠ 10#4 ∧
      t.tsDue ≠ (flight 10#4).tsDue ∧ t.trace ≠ (flight 10#4).trace) ∧
    (∃ t, exec .tick (flight 0#4) = .next t ∧ t.line ≠ (flight 0#4).line) ∧
    (∃ t, exec .tick (flight 11#4) = .next t ∧ t.ts ≠ (flight 11#4).ts) ∧
    (∃ t, exec .init State.reset = .next t ∧ t.tsPeriod ≠ State.reset.tsPeriod ∧
      t.lineDriven ≠ State.reset.lineDriven ∧ t.inited ≠ State.reset.inited) ∧
    (∃ t, exec .di (hostTurn [0x7000#16] ready) = .next t ∧ t.gie ≠ ready.gie ∧
      t.host ≠ (hostTurn [0x7000#16] ready).host) :=
  ⟨⟨_, rfl, by decide⟩, ⟨_, rfl, by decide⟩, ⟨_, rfl, by decide⟩, ⟨_, rfl, by decide⟩, ⟨_, rfl, by decide⟩,
    ⟨_, rfl, by decide⟩⟩

/-- A tick that falls due at each level, a cycle that moves the counter and the clock, and an overrun that moves the counter. -/
theorem witness_OnlyTheTickSourceMakesTicksDue :
    (∃ t, step (turn .due { flight 4#4 with tsDue := false }) = .next t ∧ t.tsDue = true) ∧
    (∃ t, step (turn .cycle (timedFlight 2)) = .next t ∧ t.tsDue = true ∧ (timedFlight 2).tsDue = false) ∧
    (∃ t, step (turn .cycle (timedFlight 0)) = .next t ∧ t.tsCount ≠ (timedFlight 0).tsCount ∧ t.now ≠ (timedFlight 0).now) ∧
    (∃ t, step (turn .tickOverrun (timedEnd 1)) = .next t ∧ t.tsCount ≠ (timedEnd 1).tsCount) :=
  ⟨⟨_, rfl, rfl⟩, ⟨_, rfl, rfl, rfl⟩, ⟨_, rfl, by decide, by decide⟩, ⟨_, rfl, by decide⟩⟩

/-- Every row of the table, an operation that raises none, and a step with a stopped agent. -/
theorem witness_FaultsFollowTheTable :
    (faultRaised .init ready = some .initTwice ∧
      faultRaised .init { State.reset with gie := true } = some .initUnmasked ∧
      faultRaised (.send 0x41#8) State.reset = some .sendBeforeInit ∧
      faultRaised .tick (flight 11#4) = some .posRange ∧ faultRaised .tick (flight 10#4) = none) ∧
    (let s := turn (.issue .fg) { flight 4#4 with fg := { ops := [0x1000#16], stopped := true } }
     (agentOf .fg s).stopped = true ∧ scheduledMove s = .issue .fg ∧ ∃ t, step s = .next t) :=
  ⟨by decide, rfl, rfl, _, rfl⟩

theorem witness_FaultsAndRefusalsAreNeverCleared :
    (∃ t, step (turn (.issue .ts) (flight 0#4)) = .next t) ∧
    { ready with fault := [.initTwice] }.fault ≠ [] := ⟨⟨_, rfl⟩, by decide⟩

theorem witness_ConfigurationAndPeriodAreFixed :
    (∃ t, step (turn (.issue .ts) (flight 0#4)) = .next t) ∧ (flight 0#4).inited = true := ⟨⟨_, rfl⟩, rfl⟩

/-- A start, a commit, and an end of a frame with and without a tick kept due. -/
theorem witness_StepKeepsCoherence :
    (Coherent (turn (.issue .fg) (fgTurn [0x1000#16] State.reset)) ∧
      ∃ t, step (turn (.issue .fg) (fgTurn [0x1000#16] State.reset)) = .next t) ∧
    (Coherent (fgTurn [0x2031#16] ready) ∧ ∃ t, step (fgTurn [0x2031#16] ready) = .next t) ∧
    (Coherent (turn (.issue .ts) (flight 10#4)) ∧ ∃ t, step (turn (.issue .ts) (flight 10#4)) = .next t) ∧
    (Coherent (turn .tickOverrun (timedEnd 1)) ∧ ∃ t, step (turn .tickOverrun (timedEnd 1)) = .next t ∧ t.tsDue = true) :=
  ⟨⟨by constructor <;> decide, _, rfl⟩, ⟨by constructor <;> decide, _, rfl⟩, ⟨by constructor <;> decide, _, rfl⟩,
    ⟨by constructor <;> decide, _, rfl, rfl⟩⟩

/-- A frame at position 1, with its start bit in the trace. -/
def flightTraced : State :=
  turn (.issue .ts) { flight 1#4 with trace := [{ obs := .tick false true, time := 0 }] }

theorem witness_StepKeepsTheFrameInTheTrace :
    Coherent flightTraced ∧ FrameSoFar flightTraced ∧ flightTraced.busy = true ∧ ∃ t, step flightTraced = .next t :=
  ⟨by constructor <;> decide, fun _ => ⟨[], by decide⟩, rfl, _, rfl⟩

theorem witness_StepKeepsCanonicalSets :
    let s := hostTurn [0x2031#16] { ready with fault := [.initTwice, .posRange], refusals := [.reservedOp] }
    CanonicalSets s ∧ ∃ t, step s = .next t :=
  ⟨⟨by decide, by decide⟩, _, rfl⟩

/-- Positions 0 and 10, an operation that is no TICK, a SEND that commits and one that holds. -/
theorem witness_PositionAdvancesInOrder :
    (∃ t, step (turn (.issue .ts) (flight 0#4)) = .next t) ∧
    (deliveryEnabled (flight 0#4) = true ∧ deliveryEnabled (flight 10#4) = true ∧ (flight 10#4).pos.toNat ≤ 10) ∧
    (∃ t, exec .init State.reset = .next t) ∧
    (∃ t, ready.inited = true ∧ exec (.send 0x31#8) ready = .next t) ∧
    (∃ t, (flight 4#4).inited = true ∧ exec (.send 0x31#8) (flight 4#4) = .next t) :=
  ⟨⟨_, rfl⟩, by decide, ⟨_, rfl⟩, ⟨_, rfl, rfl⟩, ⟨_, rfl, rfl⟩⟩

theorem witness_FrameRunsToItsEnd :
    Coherent (turn (.issue .ts) (flight 10#4)) ∧ (flight 10#4).busy = true ∧
      ∃ t, step (turn (.issue .ts) (flight 10#4)) = .next t :=
  ⟨by constructor <;> decide, rfl, _, rfl⟩

theorem witness_HeldSendKeepsTheForeground :
    let s := fgTurn [0x2032#16, 0x2033#16] (flight 4#4)
    s.inited = true ∧ s.busy = true ∧ s.fg.ops = [0x2032#16, 0x2033#16] ∧
      decode 0x2032#16 = .ok (.send 0x32#8) ∧ ∃ t, step s = .next t :=
  ⟨rfl, rfl, rfl, rfl, _, rfl⟩

theorem witness_MaskedFrameStandsStill :
    let s := turn .due { flight 4#4 with gie := false, tsDue := false }
    Coherent s ∧ s.busy = true ∧ s.gie = false ∧ ∃ t, step s = .next t :=
  ⟨by constructor <;> decide, rfl, rfl, _, rfl⟩

/-- A run of one step with the tick not yet due, and the stuck state after it. -/
theorem witness_MaskedSendHoldsForEver :
    (let s := turn .due { maskedSend with tsDue := false }
     s.inited = true ∧ s.busy = true ∧ s.gie = false ∧ s.host.ops = [] ∧ s.fg.ops = [0x2032#16] ∧
       decode 0x2032#16 = .ok (.send 0x32#8) ∧ ∃ t, Sys2Proof.core.run 1 s = .next t) ∧
    (maskedSend.inited = true ∧ maskedSend.busy = true ∧ maskedSend.gie = false ∧ maskedSend.host.ops = [] ∧
      maskedSend.fg.ops = [0x2032#16] ∧ maskedSend.cfg.wellFormed = true ∧ maskedSend.cfg.level = .untimed ∧
      maskedSend.tsDue = true ∧ maskedSend.ts.ops = [] ∧ maskedSend.fg2.ops = [] ∧ maskedSend.isr.ops = []) :=
  ⟨⟨rfl, rfl, rfl, rfl, rfl, rfl, _, rfl⟩, by decide⟩

/-- A level entry by INIT, a pair by a TICK, a step without an entry, and a TICK that leaves the line as it is. -/
theorem witness_TraceRecordsEveryChangeOfTheLine :
    (∃ t, step (fgTurn [0x1000#16] State.reset) = .next t ∧ obsOf t = [.level true]) ∧
    (∃ t, step (turn (.issue .ts) (flight 0#4)) = .next t ∧ obsOf t = [.tick false true]) ∧
    (∃ t, step (hostTurn [0x7000#16] ready) = .next t ∧ obsOf t = []) ∧
    deliveryEnabled (flight 10#4) = true ∧ (flight 10#4).pos.toNat ≤ 10 :=
  ⟨⟨_, rfl, rfl⟩, ⟨_, rfl, rfl⟩, ⟨_, rfl, rfl⟩, by decide⟩

/-- A step that stays idle, and a commit. -/
theorem witness_IdlePendingIsNeverObserved :
    (Coherent (hostTurn [0x7000#16] ready) ∧ ready.busy = false ∧ ∃ t, step (hostTurn [0x7000#16] ready) = .next t) ∧
    (Coherent (fgTurn [0x2031#16] ready) ∧ ∃ t, step (fgTurn [0x2031#16] ready) = .next t) :=
  ⟨⟨by constructor <;> decide, rfl, _, rfl⟩, by constructor <;> decide, _, rfl⟩

theorem flight0_committed : Committed 0xA5#8 (flight 0#4) := ⟨flight0_coherent, rfl, rfl, rfl, rfl⟩

theorem witness_FrameSymbolsComeInOrderInEveryRun :
    let s := { flight 0#4 with sched := [.issue .ts] }
    Committed 0xA5#8 s ∧ ∃ t, Sys2Proof.core.run 1 s = .next t :=
  ⟨⟨by constructor <;> decide, rfl, rfl, rfl, rfl⟩, _, rfl⟩

/-- TS has nothing but TICK to issue. -/
theorem ticksOnly_of_nil {s : State} (h : s.ts = Agent.idle) : TicksOnly s :=
  ⟨by rw [h]; rfl, by rw [h]; intro w hw; cases hw⟩

/-- Eleven ticks with turns of FG and HOST between, and a refused word of the second foreground context. -/
def elevenTicks : List Move :=
  [.issue .fg, .due, .issue .host, .issue .fg2] ++ .issue .ts :: .due :: .due :: tickMoves 10 ++ [.issue .ts]

theorem elevenTicks_sublist : (tickMoves 11).Sublist elevenTicks := by decide

/-- The state at the start of that schedule: HOST has an EI, and the second foreground context an undecodable word. -/
def beforeElevenTicks : State :=
  { flight 0#4 with tsDue := false, sched := elevenTicks, fg2 := { ops := [0x0000#16], stopped := false },
                    host := { ops := [0x6000#16], stopped := false } }

theorem witness_FrameCompletesInElevenTicks :
    Committed 0xA5#8 beforeElevenTicks ∧ beforeElevenTicks.cfg.wellFormed = true ∧
      beforeElevenTicks.cfg.level = .untimed ∧ beforeElevenTicks.gie = true ∧ NoDiToCome beforeElevenTicks ∧
      TicksOnly beforeElevenTicks ∧ (tickMoves 11).Sublist beforeElevenTicks.sched :=
  ⟨⟨by constructor <;> decide, rfl, rfl, rfl, rfl⟩, rfl, rfl, rfl,
    (fun w h => by cases List.mem_singleton.1 h; decide), ticksOnly_of_nil rfl, elevenTicks_sublist⟩

/-! ### The fair schedules
A frame at position 10 with its tick due, FG holding a SEND and HOST with one DI to issue. After the TICK, the DI and the commit, a
tick falls due, and then no agent can step. -/

/-- The start of the run. -/
def heldAtTheEnd : State :=
  { flight 10#4 with fg := { ops := [0x2031#16], stopped := false }, host := { ops := [0x7000#16], stopped := false } }

/-- The schedule: the TICK, the DI, the commit, and then the tick source for ever. -/
def fairMoves (n : Nat) : Move :=
  match n with
  | 0 => .issue .ts
  | 1 => .issue .host
  | 2 => .issue .fg
  | _ => .due

/-- From the fourth state on nothing changes any more. -/
theorem fair_rest (n : Nat) :
    afterMoves fairMoves heldAtTheEnd (n + 4) = afterMoves fairMoves heldAtTheEnd 4 := by
  induction n with
  | zero => rfl
  | succ n ih =>
    have h : fairMoves (n + 4) = .due := rfl
    rw [show n + 1 + 4 = (n + 4) + 1 by omega, afterMoves, ih, h]
    rfl

/-- In that state no step is enabled. -/
theorem fair_rest_stands : someStepEnabled (afterMoves fairMoves heldAtTheEnd 4) = false := by decide

/-- What rests at the end, for each step that fairness asks for. -/
theorem rests {s : State} (h : someStepEnabled s = false) :
    dueEnabled s = false ∧ counting s = false ∧ issueEnabled .ts s = false := by
  simp only [someStepEnabled, Bool.or_eq_false_iff] at h
  exact ⟨h.1.2, h.2, h.1.1.1.1.1.2⟩

theorem fair_tickSourceFair : TickSourceFair fairMoves heldAtTheEnd := by
  obtain ⟨h1, h2, h3⟩ := rests fair_rest_stands
  constructor <;> intro n h <;> have := h (n + 4) (by omega) <;> rw [fair_rest] at this <;> simp_all

theorem fair_neverIdles : NeverIdles fairMoves heldAtTheEnd := by
  intro n h
  match n with
  | 0 => exact ⟨0, by omega, by decide⟩
  | 1 => exact ⟨1, by omega, by decide⟩
  | 2 => exact ⟨2, by omega, by decide⟩
  | 3 => exact ⟨3, by omega, by decide⟩
  | n + 4 => rw [fair_rest, fair_rest_stands] at h; cases h

theorem fair_unmasked : UnmaskedDuringFrame fairMoves heldAtTheEnd := by
  refine ⟨0, fun n _ h => ?_⟩
  cases n with
  | zero => rfl
  | succ n => exact absurd (h 1 (by omega)) (by decide)

theorem witness_EveryFairScheduleCompletesTheFrame :
    TickSourceFair fairMoves heldAtTheEnd ∧ UnmaskedDuringFrame fairMoves heldAtTheEnd ∧ Coherent heldAtTheEnd ∧
      heldAtTheEnd.busy = true ∧ heldAtTheEnd.cfg.wellFormed = true ∧ TicksOnly heldAtTheEnd :=
  ⟨fair_tickSourceFair, fair_unmasked, by constructor <;> decide, rfl, rfl, ticksOnly_of_nil rfl⟩

theorem witness_EveryFairScheduleLetsTheHeldSendCommit :
    TickSourceFair fairMoves heldAtTheEnd ∧ NeverIdles fairMoves heldAtTheEnd ∧
      UnmaskedDuringFrame fairMoves heldAtTheEnd ∧ Coherent heldAtTheEnd ∧ heldAtTheEnd.busy = true ∧
      heldAtTheEnd.cfg.wellFormed = true ∧ TicksOnly heldAtTheEnd ∧ heldAtTheEnd.fg.stopped = false ∧
      heldAtTheEnd.fg.ops = [0x2031#16] ∧ decode 0x2031#16 = .ok (.send 0x31#8) :=
  ⟨fair_tickSourceFair, fair_neverIdles, fair_unmasked, by constructor <;> decide, rfl, rfl, ticksOnly_of_nil rfl, rfl,
    rfl, rfl⟩

/-- The TICK at position 10, and then the clock, at the timed level, beside a HOST that never gets its turn. -/
def endMoves (n : Nat) : Move :=
  match n with
  | 0 => .issue .ts
  | 1 => .issue .host
  | _ => .due

/-- The start of that run: HOST still has an EI. -/
def lastTick : State := { timedEnd 0 with host := { ops := [0x6000#16], stopped := false } }

theorem end_rest (n : Nat) : afterMoves endMoves lastTick (n + 2) = afterMoves endMoves lastTick 2 := by
  induction n with
  | zero => rfl
  | succ n ih =>
    have h : endMoves (n + 2) = .due := rfl
    rw [show n + 1 + 2 = (n + 2) + 1 by omega, afterMoves, ih, h]
    rfl

/-- After the TICK and the EI no step is enabled. -/
theorem end_rest_stands : someStepEnabled (afterMoves endMoves lastTick 2) = false := by decide

theorem end_tickSourceFair : TickSourceFair endMoves lastTick := by
  obtain ⟨h1, h2, h3⟩ := rests end_rest_stands
  constructor <;> intro n h <;> have := h (n + 2) (by omega) <;> rw [end_rest] at this <;> simp_all

theorem end_neverIdles : NeverIdles endMoves lastTick := by
  intro n h
  match n with
  | 0 => exact ⟨0, by omega, by decide⟩
  | 1 => exact ⟨1, by omega, by decide⟩
  | n + 2 => rw [end_rest, end_rest_stands] at h; cases h

/-- What holds of the first two states and of the one at rest holds throughout. -/
theorem end_throughout {p : State → Prop} (h0 : p lastTick) (h1 : p (afterMoves endMoves lastTick 1))
    (h2 : p (afterMoves endMoves lastTick 2)) (n : Nat) : p (afterMoves endMoves lastTick n) := by
  match n with
  | 0 => exact h0
  | 1 => exact h1
  | n + 2 => rw [end_rest]; exact h2

theorem witness_EveryFairScheduleReachesTheEnd :
    TickSourceFair endMoves lastTick ∧ NeverIdles endMoves lastTick ∧ UnmaskedInTheEnd endMoves lastTick ∧
      NothingStopped endMoves lastTick ∧ Coherent lastTick ∧ lastTick.cfg.wellFormed = true ∧ TicksOnly lastTick ∧
      lastTick.fg.stopped = false :=
  ⟨end_tickSourceFair, end_neverIdles, ⟨0, fun n _ => end_throughout (p := fun s => s.gie = true) rfl rfl rfl n⟩,
    end_throughout (p := fun s => s.fault = [] ∧ s.refusals = []) ⟨rfl, rfl⟩ ⟨rfl, rfl⟩ ⟨rfl, rfl⟩,
    by constructor <;> decide, by decide, ticksOnly_of_nil rfl, rfl⟩

/-! ### The timed level -/

/-- A tick kept due, none due with the counter at both ends of `0..P-1`, and with the counter above it. -/
theorem witness_FirstTickDelayIsTheResidue :
    (flight 0#4).tsDue = true ∧
    ((timedFlight 0).cfg.level = .timed ∧ (timedFlight 0).ts.stopped = false ∧
      drivingClockSelected (timedFlight 0) = true ∧ (timedFlight 0).tsDue = false ∧
      (timedFlight 0).tsCount < (timedFlight 0).tsPeriod ∧ 2 < firstTickDelay (timedFlight 0)) ∧
    ((timedFlight 2).tsCount < (timedFlight 2).tsPeriod ∧ 0 < firstTickDelay (timedFlight 2)) ∧
    ((timedFlight 3).tsDue = false ∧ (timedFlight 3).tsPeriod ≤ (timedFlight 3).tsCount ∧ 1 ≤ (timedFlight 3).tsPeriod ∧
      0 < firstTickDelay (timedFlight 3)) := by decide

theorem witness_PeriodTruncationBounds : 0 < Config.sourceExample.baud := by decide

/-- Ready to send at the timed level, `c` cycles counted, with a tick kept due or not. -/
def timedReady (kept : Bool) (c : Nat) : State :=
  { ready with cfg := timedConfig, tsPeriod := 3, tsDue := kept, tsCount := c }

/-- With a tick kept due, and without one at both ends of the counter's range. -/
theorem timed_ready : ReadyToSend (timedReady true 0) ∧ ReadyToSend (timedReady false 0) ∧
    ReadyToSend (timedReady false 2) :=
  ⟨⟨by constructor <;> decide, rfl, rfl, rfl, by decide, ticksOnly_of_nil rfl⟩,
   ⟨by constructor <;> decide, rfl, rfl, rfl, by decide, ticksOnly_of_nil rfl⟩,
   ⟨by constructor <;> decide, rfl, rfl, rfl, by decide, ticksOnly_of_nil rfl⟩⟩

/-- A commit with each kind of start; a cycle that completes a period; a tick due that is delivered. -/
theorem witness_TicksStayOnTimeWhereTheHandlerFits :
    ReadyToSend (timedReady true 0) ∧ ReadyToSend (timedReady false 2) ∧
    (let s := turn .cycle (timedFlight 2)
     Coherent s ∧ s.busy = true ∧ s.cfg.level = .timed ∧ s.ts.stopped = false ∧ HandlerFits s ∧ OnTime 1 s ∧
       ∃ t, step s = .next t ∧ t.busy = true) ∧
    (let s := { timedFlight 2 with tsDue := true, now := 5 }
     OnTime 3 s ∧ s.cfg.level = .timed ∧ deliveryEnabled s = true) :=
  ⟨timed_ready.1, timed_ready.2.2,
   ⟨by constructor <;> decide, rfl, rfl, rfl, (fun _ h => by cases h),
    ⟨by decide, (fun h => by cases h), fun _ => rfl⟩, _, rfl, rfl⟩,
   ⟨by decide, fun _ => rfl, fun h => by cases h⟩, rfl, rfl⟩

/-- With a tick kept due, and with none due after two cycles counted, where FG and HOST have turns between. -/
theorem witness_TimedFrameHasOnePeriodPerSymbol :
    (let s := { timedReady true 0 with sched := .issue .fg :: .issue .ts :: periodMoves 3 10 }
     ReadyToSend s ∧ s.cfg.wellFormed = true ∧ s.gie = true ∧ NoDiToCome s ∧
       ∃ u, exec (.send 0xA5#8) s = .next u ∧ u.sched.filter isClockMove =
         List.replicate (firstTickDelay s) .cycle ++ .issue .ts :: periodMoves s.tsPeriod 10 ++ []) ∧
    (let s := { timedReady false 2 with sched := .due :: .cycle :: .issue .host :: .issue .ts :: periodMoves 3 10 ++ [.issue .fg] }
     ReadyToSend s ∧ s.cfg.wellFormed = true ∧ s.gie = true ∧ NoDiToCome s ∧
       ∃ u, exec (.send 0xA5#8) s = .next u ∧ u.sched.filter isClockMove =
         List.replicate (firstTickDelay s) .cycle ++ .issue .ts :: periodMoves s.tsPeriod 10 ++ []) :=
  ⟨⟨⟨by constructor <;> decide, rfl, rfl, rfl, by decide, ticksOnly_of_nil rfl⟩, by decide, rfl,
      (fun w h => by cases h), _, rfl, rfl⟩,
   ⟨⟨by constructor <;> decide, rfl, rfl, rfl, by decide, ticksOnly_of_nil rfl⟩, by decide, rfl,
      (fun w h => by cases h), _, rfl, rfl⟩⟩

/-- A run of one cycle from the commit. -/
theorem witness_TickTimesAreExactInEveryRunThatFits :
    let s := { timedReady false 2 with sched := [.cycle] }
    ReadyToSend s ∧ ∃ u t, exec (.send 0xA5#8) s = .next u ∧
      (∀ k v, k < 1 → Sys2Proof.core.run k u = .next v → HandlerFits v) ∧ Sys2Proof.core.run 1 u = .next t :=
  ⟨⟨by constructor <;> decide, rfl, rfl, rfl, by decide, ticksOnly_of_nil rfl⟩, _, _, rfl,
    (fun k v hk h => by
      cases Nat.lt_one_iff.1 hk
      cases h
      intro _ h
      cases h), rfl⟩

/-- A run of the first TICK, of a tick kept due, and one more period of cycles. -/
theorem witness_EverySymbolLastsWholePeriods :
    let s := { timedReady true 0 with sched := [.issue .ts, .cycle, .cycle, .cycle] }
    ReadyToSend s ∧ ∃ u t, exec (.send 0xA5#8) s = .next u ∧ Sys2Proof.core.run 4 u = .next t :=
  ⟨⟨by constructor <;> decide, rfl, rfl, rfl, by decide, ticksOnly_of_nil rfl⟩, _, _, rfl, rfl⟩

/-- At both levels. -/
theorem witness_FinalizeMayKeepATickDue :
    (let s := turn .tickOverrun (flight 10#4)
     Coherent s ∧ TicksOnly s ∧ s.cfg.wellFormed = true ∧ deliveryEnabled s = true ∧ s.pos = 10#4 ∧
       scheduledMove s = .tickOverrun) ∧
    (let s := turn .tickOverrun (timedEnd 1)
     Coherent s ∧ TicksOnly s ∧ s.cfg.wellFormed = true ∧ deliveryEnabled s = true ∧ s.pos = 10#4 ∧
       scheduledMove s = .tickOverrun) :=
  ⟨⟨by constructor <;> decide, ticksOnly_of_nil rfl, by decide⟩,
    ⟨by constructor <;> decide, ticksOnly_of_nil rfl, by decide⟩⟩

/-- The counter at both ends of its range, under each of the two moves, and a delay at both ends of `0..P`. -/
theorem witness_EveryFirstTickDelayOccurs :
    (let s := turn (.issue .ts) (timedEnd 0)
     Coherent s ∧ TicksOnly s ∧ s.cfg.wellFormed = true ∧ s.tsCount < s.tsPeriod ∧ deliveryEnabled s = true ∧
       s.pos = 10#4 ∧ scheduledMove s = .issue .ts) ∧
    (let s := turn .tickOverrun (timedEnd 2)
     Coherent s ∧ TicksOnly s ∧ s.cfg.wellFormed = true ∧ s.tsCount < s.tsPeriod ∧ deliveryEnabled s = true ∧
       s.pos = 10#4 ∧ scheduledMove s = .tickOverrun) ∧
    (timedConfig.wellFormed = true ∧ timedConfig.level = .timed ∧ 0 ≤ timedConfig.period ∧ 3 ≤ timedConfig.period) :=
  ⟨⟨by constructor <;> decide, ticksOnly_of_nil rfl, by decide⟩,
    ⟨by constructor <;> decide, ticksOnly_of_nil rfl, by decide⟩, by decide⟩

/-- The last TICK delivered late, and delivered at once with a tick kept due. -/
theorem witness_StopBitLastsAtLeastOnePeriod :
    (let s := turn (.issue .ts) (timedEnd 2)
     Coherent s ∧ s.cfg.level = .timed ∧ TicksOnly s ∧ OnTime 3 s ∧ deliveryEnabled s = true ∧ s.pos = 10#4 ∧
       turnOf (scheduledMove s) = some .ts ∧ ∃ t, step s = .next t) ∧
    (let s := turn .tickOverrun (timedEnd 0)
     Coherent s ∧ s.cfg.level = .timed ∧ TicksOnly s ∧ OnTime 3 s ∧ deliveryEnabled s = true ∧ s.pos = 10#4 ∧
       turnOf (scheduledMove s) = some .ts ∧ s.tsCount = 0 ∧ ∃ t, step s = .next t) :=
  ⟨⟨by constructor <;> decide, rfl, ticksOnly_of_nil rfl, ⟨by decide, fun _ => rfl, fun h => by cases h⟩, rfl, rfl, rfl,
      _, rfl⟩,
    ⟨by constructor <;> decide, rfl, ticksOnly_of_nil rfl, ⟨by decide, fun _ => rfl, fun h => by cases h⟩, rfl, rfl, rfl,
      rfl, _, rfl⟩⟩

theorem witness_StepKeepsTheCounterInRange :
    let s := turn .cycle (timedFlight 2)
    s.inited = true ∧ s.tsCount < s.tsPeriod ∧ ∃ t, step s = .next t := ⟨rfl, by decide, _, rfl⟩

/-- The mark by a refused word and by a bad configuration, and a step that keeps it. -/
theorem witness_RefusalMarkFollowsItsTable :
    refusalMark { ready with refusals := [.reservedOp] } = true ∧
    refusalMark { ready with cfg := { timedConfig with baud := 0 } } = true ∧
    RefusalReason.badConfig ∈ refusalReasons { ready with cfg := { timedConfig with baud := 0 } } ∧
    ∃ t, step (fgTurn [0x2031#16] { ready with refusals := [.reservedOp] }) = .next t :=
  ⟨by decide, by decide, by decide, _, rfl⟩

end Sys2Proof.Tests
end

section
/-! Well-formed configurations and the step (spec/00_scope.md R9). -/

namespace Sys2Proof

/-- R9's condition on the tick period, with `P = F_DRV div BAUD` written out. -/
theorem Config.wellFormed_iff (c : Config) :
    c.wellFormed = true ↔ 1 ≤ c.fDrv / c.baud ∧ c.fDrv / c.baud ≤ c.periodMax :=
  decide_eq_true_iff

end Sys2Proof

namespace Sys2Proof.Machine

/-- The check of the configuration comes before anything else of a step: no agent, word or move is looked at. -/
theorem step_of_not_wellFormed {s : State} (h : ¬ s.cfg.wellFormed = true) : step s = .refused .badConfig := by
  simp [step, scheduleStep, h]

/-- Settles O9: R9's condition is the check that the step makes first, so a configuration that fails it is refused, and
a next state shows that it held. -/
theorem badConfigurationHasNoStep : Obligations.BadConfigurationHasNoStep := by
  refine ⟨fun s hbad => ?refused, fun s t hstep => ?wellFormed, fun c hdrv hbaud => ?period⟩
  case refused =>
    have hstep : step s = .refused .badConfig :=
      step_of_not_wellFormed (mt s.cfg.wellFormed_iff.1 hbad)
    exact ⟨hstep, fun t => by simp [hstep]⟩
  case wellFormed =>
    obtain ⟨hwf, -, -⟩ := step_next.1 hstep
    exact s.cfg.wellFormed_iff.1 hwf
  case period => simp [Config.period, hdrv, hbaud]

end Sys2Proof.Machine
end

section
/-! The records of faults and refusals over a step (spec/10_state.md R31, spec/00_scope.md R13). -/

namespace Sys2Proof.Machine

/-- The one fault of a TICK is `POS_RANGE`; at a position of a frame it touches neither record (R126). -/
theorem deliverTick_fault_or_keeps_records (s : State) :
    deliverTick s = raiseFault .ts .posRange s ∨
      ((deliverTick s).fault = s.fault ∧ (deliverTick s).refusals = s.refusals) := by
  rcases deliverTick_cases s with ⟨-, e⟩ | ⟨-, -, e⟩ | ⟨-, e⟩ | ⟨-, e⟩ | ⟨-, e⟩ <;> rw [e]
  · exact .inr ⟨rfl, rfl⟩
  · exact .inr ⟨rfl, rfl⟩
  · exact .inr ⟨rfl, rfl⟩
  · exact .inr ⟨rfl, rfl⟩
  · exact .inl rfl

/-- An operation raises one fault, or it touches neither record (R13, R151). -/
theorem exec_fault_or_keeps_records {i : Instr} {s t : State} (h : exec i s = .next t) :
    (∃ a c, t = raiseFault a c s) ∨ (t.fault = s.fault ∧ t.refusals = s.refusals) := by
  cases i with
  | init =>
    rcases execInit_cases h with ⟨-, e⟩ | ⟨-, -, e⟩ | ⟨-, -, rfl⟩
    · exact .inl ⟨_, _, e⟩
    · exact .inl ⟨_, _, e⟩
    · exact .inr (by simp [Safety.initTransmitter_eq])
  | send b =>
    rcases execSend_cases h with ⟨-, e⟩ | ⟨-, -, rfl⟩ | ⟨-, -, rfl⟩
    · exact .inl ⟨_, _, e⟩
    · exact .inr ⟨rfl, rfl⟩
    · exact .inr ⟨rfl, rfl⟩
  | tick =>
    rcases execTick_cases h with ⟨-, rfl⟩ | ⟨-, rfl⟩
    · exact (deliverTick_fault_or_keeps_records s).imp_left fun e => ⟨_, _, e⟩
    · exact .inr ⟨rfl, rfl⟩
  | tsStart => cases h; exact .inr ⟨rfl, rfl⟩
  | tsStop => cases h; exact .inr ⟨rfl, rfl⟩
  | ei => cases h; exact .inr ⟨rfl, rfl⟩
  | di => cases h; exact .inr ⟨rfl, rfl⟩

/-- The set grew by at most one element. -/
def GrownByAtMostOne {α : Type} (rank : α → Nat) (before after : List α) : Prop :=
  after = before ∨ ∃ a, after = insertRanked rank a before

theorem GrownByAtMostOne.subset {α : Type} {rank : α → Nat} {before after : List α} (h : GrownByAtMostOne rank before after) :
    before ⊆ after := by
  rcases h with rfl | ⟨a, rfl⟩
  · exact List.Subset.refl _
  · exact subset_insertRanked rank a before

/-- What one step does to the two records: each grows by at most one element (R13, R31). -/
structure RecordsGrow (s t : State) : Prop where
  fault : GrownByAtMostOne FaultCode.code s.fault t.fault
  refusals : GrownByAtMostOne RefusalReason.rank s.refusals t.refusals

theorem RecordsGrow.of_eq {s t : State} (hf : t.fault = s.fault) (hr : t.refusals = s.refusals) : RecordsGrow s t :=
  ⟨.inl hf, .inl hr⟩

theorem recordsGrow_refuse (a : Issuer) (r : RefusalReason) (s : State) : RecordsGrow s (refuse a r s) :=
  ⟨.inl (by simp), .inr ⟨r, by simp⟩⟩

theorem recordsGrow_raiseFault (a : Issuer) (c : FaultCode) (s : State) : RecordsGrow s (raiseFault a c s) :=
  ⟨.inr ⟨c, by simp⟩, .inl (by simp)⟩

theorem moved_recordsGrow {m : Move} {s t : State} (h : Moved m s t) : RecordsGrow s t := by
  induction h with
  | idle e => exact .of_eq (by rw [e]) (by rw [e])
  | refused a r _ _ e => rw [e]; exact recordsGrow_refuse a r _
  | ran _ _ _ _ _ _ _ _ e =>
    rcases exec_fault_or_keeps_records e with ⟨a, c, rfl⟩ | ⟨hf, hr⟩
    · exact recordsGrow_raiseFault a c _
    · exact .of_eq hf hr
  | overran u _ _ e ih =>
    rw [e]
    exact ⟨by simpa using ih.fault, by simpa using ih.refusals⟩
  | fellDue _ _ e => exact .of_eq (by simp [e]) (by simp [e])
  | cycled _ _ e =>
    obtain ⟨_, _, f, -⟩ := Safety.clockCycle_fields _
    exact .of_eq (by rw [e, f]) (by rw [e, f])

theorem step_recordsGrow {s t : State} (h : step s = .next t) : RecordsGrow s t := by
  obtain ⟨hf, hr⟩ := moved_recordsGrow (step_moved h)
  exact ⟨by simpa using hf, by simpa using hr⟩

/-- Settles O31: both records only grow in a step, since a step at most inserts one element into each, and
`Final` asks for an empty `FAULT`. -/
theorem faultsAndRefusalsAreNeverCleared : Obligations.FaultsAndRefusalsAreNeverCleared := by
  refine ⟨fun c u => rfl, fun a c s => ?adds, fun s t h => ?keeps, fun s hne ⟨_, _, hempty, _⟩ => hne hempty⟩
  case adds =>
    rw [raiseFault_fault]
    exact insertRanked_mem_self _ code_injective c s.fault
  case keeps =>
    have hgrow := step_recordsGrow h
    exact ⟨hgrow.fault.subset, hgrow.refusals.subset⟩

end Sys2Proof.Machine
end

section
/-! How the position and FG's place in its operations move (spec/10_state.md R24). -/

namespace Sys2Proof.Machine

/-- A delivered TICK moves the position by one below 10 and from 10 to 0; outside `0..10` it faults and leaves it (R24, R126). -/
theorem deliverTick_pos (s : State) :
    (s.pos.toNat < 10 ∧ (deliverTick s).pos.toNat = s.pos.toNat + 1) ∨
    (s.pos = 10#4 ∧ (deliverTick s).pos = 0#4) ∨
    (10 < s.pos.toNat ∧ (deliverTick s).pos = s.pos) := by
  have hnext (h : s.pos.toNat < 10) : (nextPos s.pos).toNat = s.pos.toNat + 1 := nextPos_toNat (by omega)
  rcases deliverTick_cases s with ⟨h, e⟩ | ⟨-, h, e⟩ | ⟨h, e⟩ | ⟨h, e⟩ | ⟨h, e⟩ <;> rw [e]
  · exact .inl ⟨by omega, hnext (by omega)⟩
  · exact .inl ⟨by omega, hnext (by omega)⟩
  · exact .inl ⟨by omega, hnext (by omega)⟩
  · exact .inr (.inl ⟨BitVec.eq_of_toNat_eq h, rfl⟩)
  · exact .inr (.inr ⟨h, raiseFault_pos _ _ _⟩)

@[simp] theorem initTransmitter_pos (s : State) : (initTransmitter s).pos = s.pos := by
  rw [Safety.initTransmitter_eq]

@[simp] theorem sendCommit_pos (b : Byte) (s : State) : (sendCommit b s).pos = s.pos := rfl

@[simp] theorem clockCycle_pos (s : State) : (clockCycle s).pos = s.pos := by
  obtain ⟨_, _, e, -⟩ := Safety.clockCycle_fields s
  rw [e]

/-- TICK alone moves the position (R24). -/
theorem exec_pos_of_ne_tick {i : Instr} {s t : State} (hi : i ≠ .tick) (h : exec i s = .next t) : t.pos = s.pos := by
  cases i with
  | init => rcases execInit_cases h with ⟨-, rfl⟩ | ⟨-, -, rfl⟩ | ⟨-, -, rfl⟩ <;> simp
  | send b => rcases execSend_cases h with ⟨-, rfl⟩ | ⟨-, -, rfl⟩ | ⟨-, -, rfl⟩ <;> simp
  | tick => exact absurd rfl hi
  | tsStart => cases h; rfl
  | tsStop => cases h; rfl
  | ei => cases h; rfl
  | di => cases h; rfl

/-- A step leaves the position as it is, or it delivers a TICK, which alone decides the position (R24). -/
theorem step_pos {s t : State} (h : step s = .next t) : t.pos = s.pos ∨ t.pos = (deliverTick (takeMove s)).pos := by
  cases Safety.step_effect h with
  | same h => exact .inl h.pos
  | init _ _ _ e => exact .inl (by simp [e])
  | commit _ _ _ _ e => exact .inl (by simp [e])
  | tick _ _ e => exact .inr (by rw [e])
  | tickKept _ _ _ e => exact .inr (by simp [e])
  | gie _ _ _ e => exact .inl (by simp [e])
  | due _ _ e => exact .inl (by simp [e])
  | cycle _ _ e => exact .inl (by simp [e])

/-- After INIT, SEND keeps FG at its operation while it holds, and its commit moves FG on (R24, R101, R102). -/
theorem execSend_fg_ops {b : Byte} {s t : State} (hi : s.inited = true) (h : execSend b s = .next t) :
    t.fg.ops = if s.busy = true then s.fg.ops else s.fg.ops.tail := by
  rcases execSend_cases h with ⟨hni, -⟩ | ⟨-, hb, rfl⟩ | ⟨-, hb, rfl⟩
  · rw [hi] at hni; cases hni
  · rw [if_pos hb]
  · rw [hb]; rfl

/-- Settles O38: the position is read off what a delivered TICK does with it, since nothing else of a step writes it. -/
theorem positionAdvancesInOrder : Obligations.PositionAdvancesInOrder := by
  refine ⟨fun s t h => ?order, fun s hd hpos => ?tick, fun i s t => exec_pos_of_ne_tick, fun b s t => execSend_fg_ops⟩
  case order =>
    have htick := deliverTick_pos (takeMove s)
    rw [takeMove_pos] at htick
    rcases step_pos h with e | e
    · exact .inl e
    · rw [e]
      rcases htick with hnext | hlast | ⟨-, hsame⟩
      · exact .inr (.inl hnext)
      · exact .inr (.inr hlast)
      · exact .inl hsame
  case tick =>
    refine ⟨deliverTick s, if_pos hd, ?_⟩
    rcases deliverTick_pos s with ⟨hlt, e⟩ | ⟨h10, e⟩ | ⟨hgt, -⟩
    · rw [e, Nat.mod_eq_of_lt (by omega)]
    · rw [e, h10]; rfl
    · omega

end Sys2Proof.Machine
end

section
/-! Decoding by the fields of the word, and R74's opcode map (spec/30_encoding.md R72, R74, R76, R77). -/

namespace Sys2Proof

/-! One equation of `decode` for each answer of R77's pseudocode -/

theorem decode_of_rsvField_ne_zero {w : OpWord} (hrsv : rsvField w ≠ 0#4) : decode w = .error .reservedBits :=
  if_pos hrsv

theorem decode_of_no_opNumber {w : OpWord} (hrsv : rsvField w = 0#4) (hop : ∀ i, opField w ≠ opNumber i) :
    decode w = .error .reservedOp :=
  calc decode w
    _ = _ := if_neg (not_not.2 hrsv)
    _ = _ := if_neg (hop .init)
    _ = _ := if_neg (hop (.send 0#8))
    _ = _ := if_neg (hop .tick)
    _ = _ := if_neg (hop .tsStart)
    _ = _ := if_neg (hop .tsStop)
    _ = _ := if_neg (hop .ei)
    _ = .error .reservedOp := if_neg (hop .di)

theorem decode_of_opNumber_send {w : OpWord} (hrsv : rsvField w = 0#4) (hop : opField w = 0x2#4) :
    decode w = .ok (.send (dataField w)) := by
  simp [decode, hrsv, hop]

/-- Every operation but SEND is of format N (R72). -/
theorem decode_of_opNumber_formatN {w : OpWord} {i : Instr} (hi : ∀ b, i ≠ .send b) (hrsv : rsvField w = 0#4)
    (hop : opField w = opNumber i) : decode w = decodeFormatN i w := by
  cases i with
  | send b => exact absurd rfl (hi b)
  | init => simp [decode, hrsv, hop, opNumber]
  | tick => simp [decode, hrsv, hop, opNumber]
  | tsStart => simp [decode, hrsv, hop, opNumber]
  | tsStop => simp [decode, hrsv, hop, opNumber]
  | ei => simp [decode, hrsv, hop, opNumber]
  | di => simp [decode, hrsv, hop, opNumber]

theorem decodeFormatN_eq_ok_iff {i j : Instr} {w : OpWord} :
    decodeFormatN i w = .ok j ↔ dataField w = 0#8 ∧ i = j := by
  unfold decodeFormatN
  split_ifs with hdata <;> simp [hdata]

theorem operandByte_of_formatN {i : Instr} (hi : ∀ b, i ≠ .send b) : operandByte i = 0#8 := by
  cases i with
  | send b => exact absurd rfl (hi b)
  | init => rfl
  | tick => rfl
  | tsStart => rfl
  | tsStop => rfl
  | ei => rfl
  | di => rfl

/-- The operation numbers in use are `1..7`; `0` and `8..15` are reserved (R74). -/
theorem opNumber_range (i : Instr) : 1 ≤ (opNumber i).toNat ∧ (opNumber i).toNat ≤ 7 := by
  cases i with
  | init => decide
  | send b => simp [opNumber]
  | tick => decide
  | tsStart => decide
  | tsStop => decide
  | ei => decide
  | di => decide

/-! The decoder inverts the encoder -/

/-- A word is its three fields (R72). -/
theorem encode_eq_iff_fields {i : Instr} {w : OpWord} :
    encode i = w ↔ rsvField w = 0#4 ∧ opField w = opNumber i ∧ dataField w = operandByte i := by
  have hop := (opNumber i).isLt
  have hlo := (operandByte i).isLt
  rw [rsvField_eq_zero, ← BitVec.toNat_inj, ← BitVec.toNat_inj, ← BitVec.toNat_inj, encode_toNat, opField_toNat,
    dataField_toNat]
  omega

theorem decode_encode (i : Instr) : decode (encode i) = .ok i := by
  obtain ⟨hrsv, hop, hdata⟩ := encode_eq_iff_fields.1 (rfl : encode i = encode i)
  rcases em (∃ b, i = .send b) with ⟨b, rfl⟩ | hi
  · rw [decode_of_opNumber_send hrsv hop, hdata]; rfl
  · have hN : ∀ b, i ≠ .send b := not_exists.1 hi
    rw [decode_of_opNumber_formatN hN hrsv hop]
    exact decodeFormatN_eq_ok_iff.2 ⟨hdata.trans (operandByte_of_formatN hN), rfl⟩

theorem encode_injective : Function.Injective encode := fun i j h => by
  have hdec : decode (encode i) = decode (encode j) := congrArg decode h
  rw [decode_encode, decode_encode] at hdec
  exact Except.ok.inj hdec

theorem encode_eq_of_decode {w : OpWord} {i : Instr} (h : decode w = .ok i) : encode i = w := by
  have hrsv : rsvField w = 0#4 := by
    by_contra hne
    rw [decode_of_rsvField_ne_zero hne] at h
    cases h
  obtain ⟨j, hop⟩ : ∃ j, opField w = opNumber j := by
    by_contra hnone
    rw [decode_of_no_opNumber hrsv (not_exists.1 hnone)] at h
    cases h
  rcases em (∃ b, j = .send b) with ⟨b, rfl⟩ | hj
  · rw [decode_of_opNumber_send hrsv hop] at h
    cases h
    exact encode_eq_iff_fields.2 ⟨hrsv, hop, rfl⟩
  · have hN : ∀ b, j ≠ .send b := not_exists.1 hj
    rw [decode_of_opNumber_formatN hN hrsv hop] at h
    obtain ⟨hdata, rfl⟩ := decodeFormatN_eq_ok_iff.1 h
    exact encode_eq_iff_fields.2 ⟨hrsv, hop, hdata.trans (operandByte_of_formatN hN).symm⟩

theorem decode_eq_ok_iff {w : OpWord} {i : Instr} : decode w = .ok i ↔ encode i = w :=
  ⟨encode_eq_of_decode, fun h => h ▸ decode_encode i⟩

/-! The rows of R74's map -/

/-- A row of format N gives every bit of its word; SEND's row leaves the data byte open (R74). -/
theorem opcodeMap_row {r : OpcodeRow} (h : r ∈ opcodeMap) :
    (r.mask = 0xFFFF#16 ∧ ∃ i, encode i = r.matchWord ∧ r.operation = fun _ => i) ∨
    (r.mask = 0xFF00#16 ∧ r.matchWord = 0x2000#16 ∧ r.operation = .send) := by
  simp only [opcodeMap, List.mem_cons, List.not_mem_nil, or_false] at h
  rcases h with rfl | rfl | rfl | rfl | rfl | rfl | rfl
  · exact .inl ⟨rfl, _, by decide, rfl⟩
  · exact .inr ⟨rfl, rfl, rfl⟩
  · exact .inl ⟨rfl, _, by decide, rfl⟩
  · exact .inl ⟨rfl, _, by decide, rfl⟩
  · exact .inl ⟨rfl, _, by decide, rfl⟩
  · exact .inl ⟨rfl, _, by decide, rfl⟩
  · exact .inl ⟨rfl, _, by decide, rfl⟩

theorem opcodeMap_has_row (i : Instr) : ∃ r ∈ opcodeMap, r.operation (operandByte i) = i := by
  cases i with
  | init => simp [opcodeMap]
  | send b => simp [opcodeMap, operandByte]
  | tick => simp [opcodeMap]
  | tsStart => simp [opcodeMap]
  | tsStop => simp [opcodeMap]
  | ei => simp [opcodeMap]
  | di => simp [opcodeMap]

theorem opcodeMap_operations_differ :
    opcodeMap.Pairwise fun r r' => ∀ b, r.operation b ≠ r'.operation b := by
  simp [opcodeMap]

/-- The mask of SEND's row clears the data byte, so it tests `OP` and `RSV`. -/
theorem and_sendMask_eq_iff (w : OpWord) :
    w &&& 0xFF00#16 = 0x2000#16 ↔ rsvField w = 0#4 ∧ opField w = 0x2#4 := by
  have hw := w.isLt
  have hmask : w &&& 0xFF00#16 = w >>> 8 <<< 8 := (BitVec.shiftLeft_ushiftRight (x := w) (n := 8)).symm
  have hval : (w >>> 8 <<< 8).toNat = w.toNat / 256 * 256 % 65536 := by
    simp [Nat.shiftRight_eq_div_pow, Nat.shiftLeft_eq]
  rw [hmask, ← BitVec.toNat_inj, hval, rsvField_eq_zero, opField_eq w 2 (by decide), BitVec.toNat_ofNat]
  omega

/-- A row selects exactly the words that encode its operation on the word's own data byte. -/
theorem opcodeMap_selects_iff {r : OpcodeRow} (h : r ∈ opcodeMap) (w : OpWord) :
    w &&& r.mask = r.matchWord ↔ encode (r.operation (dataField w)) = w := by
  rcases opcodeMap_row h with ⟨hmask, i, henc, hop⟩ | ⟨hmask, hmatch, hop⟩
  · have hall : w &&& 0xFFFF#16 = w := BitVec.and_allOnes
    rw [hmask, hall, hop, ← henc]
    exact eq_comm
  · rw [hmask, hmatch, hop, and_sendMask_eq_iff, encode_eq_iff_fields]
    simp [opNumber, operandByte]

theorem decode_eq_ok_iff_opcodeMap (w : OpWord) (i : Instr) :
    decode w = .ok i ↔ ∃ r ∈ opcodeMap, w &&& r.mask = r.matchWord ∧ r.operation (dataField w) = i := by
  rw [decode_eq_ok_iff]
  constructor
  · intro henc
    obtain ⟨-, -, hdata⟩ := encode_eq_iff_fields.1 henc
    obtain ⟨r, hr, hop⟩ := opcodeMap_has_row i
    rw [← hdata] at hop
    exact ⟨r, hr, (opcodeMap_selects_iff hr w).2 (hop ▸ henc), hop⟩
  · rintro ⟨r, hr, hsel, rfl⟩
    exact (opcodeMap_selects_iff hr w).1 hsel

theorem opcodeMap_selected_operation {r : OpcodeRow} {w : OpWord}
    (h : r ∈ opcodeMap.filter fun r => r.selectedBy w) : encode (r.operation (dataField w)) = w := by
  obtain ⟨hr, hsel⟩ := List.mem_filter.1 h
  exact (opcodeMap_selects_iff hr w).1 (beq_iff_eq.1 hsel)

/-- Two rows that select one word would have operations with the same encoding, but the rows' operations differ (R74). -/
theorem opcodeMap_at_most_one_selected (w : OpWord) : (opcodeMap.filter fun r => r.selectedBy w).length ≤ 1 := by
  have hdiffer := opcodeMap_operations_differ.filter fun r => r.selectedBy w
  have hsel := fun r => opcodeMap_selected_operation (r := r) (w := w)
  generalize (opcodeMap.filter fun r => r.selectedBy w) = rows at hdiffer hsel
  match rows with
  | [] => exact Nat.zero_le 1
  | [_] => exact Nat.le_refl 1
  | r :: r' :: _ =>
    have hsame : r.operation (dataField w) = r'.operation (dataField w) :=
      encode_injective ((hsel r (by simp)).trans (hsel r' (by simp)).symm)
    exact absurd hsame (List.rel_of_pairwise_cons hdiffer (by simp) _)

/-- Settles O2: the decoder inverts the encoder, and a row of the map selects exactly the words that encode its operation. -/
theorem decodeFollowsTheOpcodeMap : Obligations.DecodeFollowsTheOpcodeMap :=
  ⟨decode_eq_ok_iff_opcodeMap, opcodeMap_at_most_one_selected, rfl, fun _ => rfl, rfl, rfl, rfl, rfl, rfl⟩

/-- A format N operation by numbers: its number, then the low byte that must be zero (R77). -/
theorem decode_formatN_of_numbers {w : OpWord} {i : Instr} (hi : ∀ b, i ≠ .send b) (hrsv : w.toNat / 256 % 16 = 0)
    (hop : w.toNat / 4096 = (opNumber i).toNat) :
    decode w = if w.toNat % 256 = 0 then .ok i else .error .reservedBits := by
  have hop' : opField w = opNumber i := BitVec.eq_of_toNat_eq ((opField_toNat w).trans hop)
  rw [decode_of_opNumber_formatN hi ((rsvField_eq_zero w).2 hrsv) hop']
  simp only [decodeFormatN, dataField_eq_zero]

/-- Settles O3: each clause is one of the decoder's equations, read with the fields as numbers. -/
theorem decodingOrderOfRefusals : Obligations.DecodingOrderOfRefusals := by
  intro w op rsv lo
  refine ⟨fun hrsv => ?reservedBits, fun hrsv hop => ?reservedOp, fun hrsv hop => ?send,
    decode_formatN_of_numbers (i := .init) nofun, decode_formatN_of_numbers (i := .tick) nofun,
    decode_formatN_of_numbers (i := .tsStart) nofun, decode_formatN_of_numbers (i := .tsStop) nofun,
    decode_formatN_of_numbers (i := .ei) nofun, decode_formatN_of_numbers (i := .di) nofun⟩
  case reservedBits => exact decode_of_rsvField_ne_zero (mt (rsvField_eq_zero w).1 hrsv)
  case reservedOp =>
    refine decode_of_no_opNumber ((rsvField_eq_zero w).2 hrsv) fun i hi => ?_
    have hval : op = (opNumber i).toNat := by rw [← hi, opField_toNat]
    have hrange := opNumber_range i
    omega
  case send =>
    have hlo : lo = (dataField w).toNat := (dataField_toNat w).symm
    rw [decode_of_opNumber_send ((rsvField_eq_zero w).2 hrsv) ((opField_eq w 2 (by decide)).2 hop), hlo,
      BitVec.ofNat_toNat, BitVec.setWidth_eq]

end Sys2Proof
end

section
/-! A SEND that holds: FG stays at it, and the byte of the frame in progress stays (spec/40_transmitter_control.md R101, R106). -/

namespace Sys2Proof.Machine

/-- The turn of an FG whose SEND holds changes nothing, whether FG is stopped or not (R13, R101). -/
theorem issueStep_of_heldSend {s : State} {b : Byte} {w : OpWord} {rest : List OpWord} (hi : s.inited = true)
    (hb : s.busy = true) (hw : s.fg.ops = w :: rest) (hd : decode w = .ok (.send b)) : issueStep .fg s = .next s := by
  have hword : nextWord .fg s = some w := by simp [nextWord, agentOf, hw]
  have hissuer : checkIssuer .fg (.send b) = none := checkIssuer_none.2 rfl
  have hhold : exec (.send b) s = .next s := by simp [exec, execSend, hi, hb, hold]
  unfold issueStep
  split
  next => rfl
  next => simp only [hword, issueWord, hd, hissuer, hhold]

/-- While a SEND holds, no step touches FG: in its own turn nothing changes, and no other turn moves FG (R106). -/
theorem step_keeps_fg_of_heldSend {s t : State} {b : Byte} {w : OpWord} {rest : List OpWord} (hi : s.inited = true)
    (hb : s.busy = true) (hw : s.fg.ops = w :: rest) (hd : decode w = .ok (.send b)) (h : step s = .next t) :
    t.fg = s.fg := by
  have hfg : (takeMove s).fg = s.fg := agentOf_takeMove .fg s
  by_cases hturn : turnOf (scheduledMove s) = some .fg
  · obtain ⟨u, hu, ht⟩ := Safety.step_turn h hturn
    have hheld : issueStep .fg (takeMove s) = .next (takeMove s) :=
      issueStep_of_heldSend (by simpa using hi) (by simpa using hb) ((congrArg Agent.ops hfg).trans hw) hd
    rw [hheld] at hu
    cases hu
    rcases ht with rfl | rfl
    · exact hfg
    · exact (agentOf_overrun .fg _ _).trans hfg
  · exact Safety.step_agentOf_other h hturn

@[simp] theorem deliverTick_pending (s : State) : (deliverTick s).pending = s.pending := by
  rcases deliverTick_cases s with ⟨-, e⟩ | ⟨-, -, e⟩ | ⟨-, e⟩ | ⟨-, e⟩ | ⟨-, e⟩ <;> rw [e]
  · rfl
  · rfl
  · rfl
  · rfl
  · exact raiseFault_pending _ _ _

/-- Only a SEND commit writes `PENDING`, and it needs `BUSY = 0` (R22, R102). -/
theorem step_keeps_pending_of_busy {s t : State} (hb : s.busy = true) (h : step s = .next t) :
    t.pending = s.pending := by
  cases Safety.step_effect h with
  | same h => exact h.pending
  | init _ _ _ e => simp [e, Safety.initTransmitter_eq]
  | commit _ _ idle _ _ => rw [hb] at idle; cases idle
  | tick _ _ e => simp [e]
  | tickKept _ _ _ e => simp [e]
  | gie _ _ _ e => simp [e]
  | due _ _ e => simp [e]
  | cycle _ _ e =>
    obtain ⟨_, _, f, -⟩ := Safety.clockCycle_fields (takeMove s)
    simp [e, f]

/-- Settles O40: a held SEND changes nothing in FG's own turn, no other turn moves FG, and `PENDING` is written by a
commit only, which `BUSY = 1` rules out. -/
theorem heldSendKeepsTheForeground : Obligations.HeldSendKeepsTheForeground :=
  fun _ _ _ _ _ hi hb hw hd h => ⟨step_keeps_fg_of_heldSend hi hb hw hd h, step_keeps_pending_of_busy hb h⟩

end Sys2Proof.Machine
end

section
/-! The TICK outside positions `0..10`, and the range of the position (spec/41_bit_framer.md R126). -/

namespace Sys2Proof.Machine

theorem deliveryEnabled_iff {s : State} :
    deliveryEnabled s = true ↔ s.tsDue = true ∧ tickInterruptEnabled s = true ∧ s.gie = true := by
  simp [deliveryEnabled, and_assoc]

theorem exec_tick_of_deliveryEnabled {s : State} (h : deliveryEnabled s = true) :
    exec .tick s = .next (deliverTick s) :=
  if_pos h

theorem deliverTick_of_pos_out_of_range {s : State} (h : 10 < s.pos.toNat) :
    deliverTick s = raiseFault .ts .posRange s := by
  rcases deliverTick_cases s with ⟨h0, -⟩ | ⟨-, h8, -⟩ | ⟨h9, -⟩ | ⟨h10, -⟩ | ⟨-, e⟩
  · omega
  · omega
  · omega
  · omega
  · exact e

theorem deliverTick_pos_le_ten {s : State} (h : s.pos.toNat ≤ 10) : (deliverTick s).pos.toNat ≤ 10 := by
  rcases deliverTick_pos s with ⟨hlt, e⟩ | ⟨-, e⟩ | ⟨hgt, -⟩
  · omega
  · rw [e]; decide
  · omega

theorem step_keeps_pos_le_ten {s t : State} (hpos : s.pos.toNat ≤ 10) (h : step s = .next t) : t.pos.toNat ≤ 10 := by
  rcases step_pos h with e | e
  · rw [e]; exact hpos
  · rw [e]; exact deliverTick_pos_le_ten (by rwa [takeMove_pos])

/-- Settles O21: outside `0..10` only the fault case of a delivered TICK is left, and a fault keeps the block; a position
in the range moves only by a delivered TICK, which wraps from 10 to 0. -/
theorem tickOutOfRangeFaults : Obligations.TickOutOfRangeFaults := by
  refine ⟨fun s hdue hie hgie hpos => ⟨?faults, Safety.sameBlock_raiseFault .ts .posRange s⟩, fun c u => ?reset,
    fun s t => step_keeps_pos_le_ten⟩
  case faults =>
    rw [exec_tick_of_deliveryEnabled (deliveryEnabled_iff.2 ⟨hdue, hie, hgie⟩), deliverTick_of_pos_out_of_range hpos]
  case reset => exact Nat.zero_le 10

end Sys2Proof.Machine
end

section
/-! EI: the whole next state, and the delivery it enables (spec/42_host_environment.md R140). -/

namespace Sys2Proof.Machine

/-- EI sets `GIE` and takes its word off HOST's list (R140). -/
theorem exec_ei (s : State) :
    exec .ei s = .next { s with gie := true, host := { s.host with ops := s.host.ops.tail } } :=
  rfl

theorem decode_eiWord : decode 0x6000#16 = .ok .ei :=
  have hword : encode .ei = 0x6000#16 := by decide
  decode_eq_ok_iff.2 hword

/-- Settles O26: EI's next state differs only in `GIE` and HOST's list, so a due tick with `IE = 1` lacks nothing of what
a delivery needs. -/
theorem eiEnablesInterrupts : Obligations.EiEnablesInterrupts :=
  ⟨decode_eiWord, rfl, fun s => ⟨_, exec_ei s, rfl, fun hdue hie => deliveryEnabled_iff.2 ⟨hdue, hie, rfl⟩⟩⟩

end Sys2Proof.Machine
end

section
/-! The encoder inverts the decoder, and words written out (spec/30_encoding.md R72, R74, R76; spec/95_test_vectors.md section 2.1). -/

namespace Sys2Proof

/-- Settles O1: the decoder inverts the encoder in both directions, and the operand's type bounds the operand. -/
theorem decodeAndEncodeAgree : Obligations.DecodeAndEncodeAgree :=
  ⟨fun i _ => decode_encode i, fun _ i h => ⟨i.wellFormed_all, encode_eq_of_decode h⟩⟩

/-- Settles O4: fixed words, which the decoder reads by computation. -/
theorem wordsOfTheSpecDecode : Obligations.WordsOfTheSpecDecode := by
  unfold Obligations.WordsOfTheSpecDecode
  decide

/-- Settles O5: fixed lines, which the assembler reads by computation. -/
theorem assemblerReadsItsSyntax : Obligations.AssemblerReadsItsSyntax := by
  unfold Obligations.AssemblerReadsItsSyntax
  decide

end Sys2Proof
end

section
/-! What a delivered TICK and a commit write, in the words of the frame's levels (spec/41_bit_framer.md R122 to R126). -/

namespace Sys2Proof.Safety

open Sys2Proof.Machine

/-- The level driven at a data position is the bit that the Bit-Framer reads there (R123). -/
theorem lineAt_data {k : Nat} (b : Byte) (h1 : 1 ≤ k) (h8 : k ≤ 8) : lineAt b (k + 1) = b.getLsbD (k - 1) := by
  interval_cases k <;> rfl

/-- Below position 10 a delivered TICK drives the level of its symbol and moves the position on (R122 to R124). -/
theorem deliverTick_of_pos_lt {s : State} (h : s.pos.toNat < 10) :
    deliverTick s = { s with
      tsDue := false, line := lineAt s.pending (s.pos.toNat + 1), pos := nextPos s.pos,
      trace := s.trace ++ [{ obs := .tick (lineAt s.pending (s.pos.toNat + 1)) s.busy, time := tickTime s }],
      ts := { s.ts with ops := s.ts.ops.tail } } := by
  rcases deliverTick_cases s with ⟨hpos, e⟩ | ⟨h1, h8, e⟩ | ⟨hpos, e⟩ | ⟨hpos, -⟩ | ⟨hpos, -⟩
  · rw [e, hpos]; rfl
  · rw [e, lineAt_data s.pending h1 h8]; rfl
  · rw [e, hpos]; rfl
  · omega
  · omega

/-- The TICK at position 10 ends the frame and leaves the line (R125). -/
theorem deliverTick_of_pos_ten {s : State} (h : s.pos = 10#4) :
    deliverTick s = { s with
      tsDue := false, busy := false, pos := 0#4, tsCtrl := 0b00#2,
      trace := s.trace ++ [{ obs := .tick s.line false, time := tickTime s }],
      ts := { s.ts with ops := s.ts.ops.tail } } := by
  unfold deliverTick
  rw [h]
  rfl

/-- What no delivered TICK writes, at whatever position (R121 to R126). -/
structure SameSetting (s t : State) : Prop where
  cfg : t.cfg = s.cfg
  tsPeriod : t.tsPeriod = s.tsPeriod
  lineDriven : t.lineDriven = s.lineDriven
  inited : t.inited = s.inited
  gie : t.gie = s.gie
  tsCount : t.tsCount = s.tsCount
  now : t.now = s.now

theorem sameSetting_deliverTick (s : State) : SameSetting s (deliverTick s) := by
  rcases deliverTick_cases s with ⟨-, e⟩ | ⟨-, -, e⟩ | ⟨-, e⟩ | ⟨-, e⟩ | ⟨-, e⟩ <;> rw [e]
  · exact ⟨rfl, rfl, rfl, rfl, rfl, rfl, rfl⟩
  · exact ⟨rfl, rfl, rfl, rfl, rfl, rfl, rfl⟩
  · exact ⟨rfl, rfl, rfl, rfl, rfl, rfl, rfl⟩
  · exact ⟨rfl, rfl, rfl, rfl, rfl, rfl, rfl⟩
  · constructor <;> simp

/-- SEND after INIT with the transmitter idle commits in its wait step (R101, R102). -/
theorem exec_send_of_idle {s : State} (b : Byte) (hi : s.inited = true) (hb : s.busy = false) :
    exec (.send b) s = .next (sendCommit b s) := by
  simp [exec, execSend, hi, hb]

theorem sendCommit_eq (b : Byte) (s : State) :
    sendCommit b s = { s with
      busy := true, pending := b, tsCtrl := 0b11#2, fg := { s.fg with ops := s.fg.ops.tail } } :=
  rfl

end Sys2Proof.Safety
end

section
/-! What the coherence of a state says of a frame in flight and between frames (spec/10_state.md R33). -/

namespace Sys2Proof.Safety

open Sys2Proof.Machine

variable {s t : State}

theorem Coherent.inited_of_busy (hc : Coherent s) (hb : s.busy = true) : s.inited = true := by
  by_contra hi
  obtain ⟨hidle, -⟩ := hc.beforeInit (by simpa using hi)
  rw [hb] at hidle
  cases hidle

theorem Coherent.running (hc : Coherent s) (hb : s.busy = true) : s.tsCtrl = 0b11#2 :=
  (hc.runningIffBusy (hc.inited_of_busy hb)).1 hb

theorem Coherent.stopped (hc : Coherent s) (hb : s.busy = false) : s.tsCtrl = 0b00#2 := by
  cases hi : s.inited with
  | false => exact (hc.beforeInit hi).2.2.1
  | true => exact (hc.stoppedIffIdle hi).1 hb

theorem Coherent.busy_of_pos_ne_zero (hc : Coherent s) (hp : s.pos ≠ 0#4) : s.busy = true := by
  by_contra hb
  exact hp (hc.idlePos (by simpa using hb))

theorem Coherent.busy_of_deliveryEnabled (hc : Coherent s) (hd : deliveryEnabled s = true) : s.busy = true := by
  by_contra hb
  have hie := (stopped_fields (hc.stopped (by simpa using hb))).1
  rw [(deliveryEnabled_iff.1 hd).2.1] at hie
  cases hie

theorem Coherent.clockSelected_iff_busy (hc : Coherent s) : drivingClockSelected s = s.busy := by
  cases hb : s.busy with
  | false => exact (stopped_fields (hc.stopped hb)).2
  | true => exact (running_fields (hc.running hb)).2

theorem Coherent.pos_le_ten (hc : Coherent s) : s.pos.toNat ≤ 10 := hc.posRange

theorem Coherent.pos_lt_or_eq_ten (hc : Coherent s) : s.pos.toNat < 10 ∨ s.pos = 10#4 := by
  rcases Nat.lt_or_eq_of_le hc.pos_le_ten with h | h
  · exact .inl h
  · exact .inr (BitVec.eq_of_toNat_eq h)

/-- The stop bit's level stands on the line while the frame waits at position 10. -/
theorem Coherent.line_of_pos_ten (hc : Coherent s) (hp : s.pos = 10#4) : s.line = true := by
  have hb := hc.busy_of_pos_ne_zero (by rw [hp]; decide)
  rw [hc.frameLevel (hc.inited_of_busy hb) hb, hp]
  rfl

/-! Each part of a step keeps the coherence -/

theorem Coherent.of_sameBlock (hc : Coherent s) (h : SameBlock s t) : Coherent t := by
  obtain ⟨busy, pending, pos, tsCtrl, tsPeriod, line, lineDriven, inited, -, tsDue, tsCount, -, -, cfg⟩ := h
  obtain ⟨c1, c2, c3, c4, c5, c6, c7, c8, c9, c10⟩ := hc
  constructor <;> simpa only [busy, pending, pos, tsCtrl, tsPeriod, line, lineDriven, inited, tsDue, tsCount, cfg]

/-- INIT leaves the line driven and high, the period programmed and the tick source stopped. -/
theorem coherent_initTransmitter (hc : Coherent s) (hi : s.inited = false) : Coherent (initTransmitter s) := by
  obtain ⟨hidle, hpos, -, hdue⟩ := hc.beforeInit hi
  rw [initTransmitter_eq]
  constructor <;> simp [hidle, hpos, hdue, Config.posMax]

/-- A commit finds the line high, which is the level before the start bit. -/
theorem coherent_sendCommit (b : Byte) (hc : Coherent s) (hi : s.inited = true) (hb : s.busy = false) :
    Coherent (sendCommit b s) := by
  have hpos := hc.idlePos hb
  rw [sendCommit_eq]
  constructor <;> simp [hi, hpos, hc.driven hi, hc.idleHigh hi hb, hc.period hi, lineAt, Config.posMax]

theorem coherent_deliverTick (hc : Coherent s) (hb : s.busy = true) : Coherent (deliverTick s) := by
  have hi := hc.inited_of_busy hb
  rcases hc.pos_lt_or_eq_ten with hpos | hpos
  · have hnext : (nextPos s.pos).toNat = s.pos.toNat + 1 := nextPos_toNat (by omega)
    rw [deliverTick_of_pos_lt hpos]
    constructor <;> simp [hi, hb, hnext, hc.running hb, hc.driven hi, hc.period hi, Config.posMax]
    omega
  · rw [deliverTick_of_pos_ten hpos]
    constructor <;> simp [hi, hc.line_of_pos_ten hpos, hc.driven hi, hc.period hi, Config.posMax]

/-- A tick kept due after the finalize TICK comes with a count of zero at the timed level (R104, R195). -/
theorem coherent_keepTickDue (hc : Coherent s) (hi : s.inited = true) : Coherent (keepTickDue s) where
  posRange := hc.posRange
  idlePos := hc.idlePos
  runningIffBusy := hc.runningIffBusy
  stoppedIffIdle := hc.stoppedIffIdle
  driven := hc.driven
  idleHigh := hc.idleHigh
  frameLevel := hc.frameLevel
  period := hc.period
  beforeInit h := by rw [keepTickDue_inited, hi] at h; cases h
  keptDue h _ _ := by rw [keepTickDue_cfg] at h; simp [h]

/-- A tick that falls due, or a counter or a clock that moves, while the tick source runs. -/
theorem coherent_of_tickSource (hc : Coherent s) (hb : s.busy = true) (c n : Nat) (d : Bool) :
    Coherent { s with now := n, tsCount := c, tsDue := d } where
  posRange := hc.posRange
  idlePos := hc.idlePos
  runningIffBusy := hc.runningIffBusy
  stoppedIffIdle := hc.stoppedIffIdle
  driven := hc.driven
  idleHigh := hc.idleHigh
  frameLevel := hc.frameLevel
  period := hc.period
  beforeInit h := by rw [hc.inited_of_busy hb] at h; cases h
  keptDue _ h _ := by rw [hb] at h; cases h

/-- The clock and `GIE` are no part of the coherence. -/
theorem coherent_of_clock_gie (hc : Coherent s) (n : Nat) (g : Bool) : Coherent { s with now := n, gie := g } :=
  ⟨hc.posRange, hc.idlePos, hc.runningIffBusy, hc.stoppedIffIdle, hc.driven, hc.idleHigh, hc.frameLevel, hc.period,
    hc.beforeInit, hc.keptDue⟩

theorem sameBlock_advance (a : Issuer) (s : State) : SameBlock s (advance a s) := by constructor <;> simp

theorem drivingClockSelected_of_counting (h : counting s = true) : drivingClockSelected s = true := by
  simp only [counting, Bool.and_eq_true] at h
  exact h.2

theorem drivingClockSelected_of_dueEnabled (h : dueEnabled s = true) : drivingClockSelected s = true := by
  simp only [dueEnabled, Bool.and_eq_true] at h
  exact h.1.2

theorem coherent_clockCycle (hc : Coherent s) : Coherent (clockCycle s) := by
  rcases clockCycle_cases s with ⟨hcount, -⟩ | ⟨-, e⟩
  · obtain ⟨c, d, e, -, -⟩ := clockCycle_fields s
    rw [e]
    exact coherent_of_tickSource hc (by rw [← hc.clockSelected_iff_busy, drivingClockSelected_of_counting hcount]) _ _ _
  · rw [e]
    exact coherent_of_clock_gie hc _ s.gie

/-- Settles O35: each part of a step keeps the coherence; a TICK is delivered, and a tick falls due, only inside a frame. -/
theorem stepKeepsCoherence : Obligations.StepKeepsCoherence := by
  intro s t hcs h
  have hc : Coherent (takeMove s) := hcs.of_sameBlock (sameBlock_takeMove s)
  have busy_of_tick (hd : deliveryEnabled s = true) : (takeMove s).busy = true :=
    hc.busy_of_deliveryEnabled (by rwa [deliveryEnabled_takeMove])
  cases step_effect h with
  | same h => exact hcs.of_sameBlock h
  | init fresh _ _ e => rw [e]; exact coherent_initTransmitter hc (by simpa using fresh)
  | commit b inited idle _ e => rw [e]; exact coherent_sendCommit b hc (by simpa using inited) (by simpa using idle)
  | tick enabled _ e => rw [e]; exact coherent_deliverTick hc (busy_of_tick enabled)
  | tickKept enabled _ last e =>
    have hb := busy_of_tick enabled
    rw [e]
    refine coherent_keepTickDue (coherent_deliverTick hc hb) ?_
    rw [deliverTick_of_pos_ten (by simpa using last)]
    exact hc.inited_of_busy hb
  | gie g _ _ e =>
    rw [e]
    exact (coherent_of_clock_gie hc (takeMove s).now g).of_sameBlock (sameBlock_advance _ _)
  | due enabled _ e =>
    rw [e]
    have hb : s.busy = true := by rw [← hcs.clockSelected_iff_busy, drivingClockSelected_of_dueEnabled enabled]
    exact coherent_of_tickSource hc (by simpa using hb) _ _ _
  | cycle _ _ e => rw [e]; exact coherent_clockCycle hc

end Sys2Proof.Safety
end

section
/-! A step while a frame is in flight: it keeps the frame as it stands, or it delivers the TICK of the position
(spec/10_state.md R24, R33; spec/41_bit_framer.md R121 to R127). -/

namespace Sys2Proof.Safety

open Sys2Proof.Machine

/-- The pair that the TICK at position `k` appends (R127). -/
def symbolAt (b : Byte) (k : Nat) : Obs := .tick (lineAt b (k + 1)) (decide (k < 10))

theorem frameObs_getElem? (b : Byte) {k : Nat} (hk : k ≤ 10) : (frameObs b)[k]? = some (symbolAt b k) := by
  interval_cases k <;> rfl

@[simp] theorem frameObs_length (b : Byte) : (frameObs b).length = 11 := rfl

theorem frameObs_take_succ (b : Byte) {k : Nat} (hk : k ≤ 10) :
    (frameObs b).take (k + 1) = (frameObs b).take k ++ [symbolAt b k] := by
  rw [List.take_add_one, frameObs_getElem? b hk, Option.toList_some]

theorem frameObs_drop_eq_cons (b : Byte) {k : Nat} (hk : k ≤ 10) :
    (frameObs b).drop k = symbolAt b k :: (frameObs b).drop (k + 1) := by
  obtain ⟨hlt, hget⟩ := List.getElem?_eq_some_iff.1 (frameObs_getElem? b hk)
  rw [List.drop_eq_getElem_cons hlt, hget]

/-- What all but a TICK leaves of a frame in flight. -/
structure SameFrame (s t : State) : Prop where
  busy : t.busy = s.busy
  pending : t.pending = s.pending
  pos : t.pos = s.pos
  tsCtrl : t.tsCtrl = s.tsCtrl
  tsPeriod : t.tsPeriod = s.tsPeriod
  line : t.line = s.line
  trace : t.trace = s.trace

/-- What the delivered TICK of a frame in flight does to it. -/
structure Ticked (s t : State) : Prop where
  pending : t.pending = s.pending
  tsPeriod : t.tsPeriod = s.tsPeriod
  trace : t.trace = s.trace ++ [{ obs := symbolAt s.pending s.pos.toNat, time := tickTime s }]
  /-- Below position 10 the frame goes on. -/
  next : s.pos.toNat < 10 → t.busy = true ∧ t.pos.toNat = s.pos.toNat + 1 ∧ t.tsCtrl = s.tsCtrl
  /-- At position 10 it ends. -/
  last : s.pos = 10#4 → t.busy = false ∧ t.pos = 0#4 ∧ t.tsCtrl = 0b00#2 ∧ t.line = true

variable {s t : State}

theorem SameBlock.sameFrame (h : SameBlock s t) : SameFrame s t :=
  ⟨h.busy, h.pending, h.pos, h.tsCtrl, h.tsPeriod, h.line, h.trace⟩

theorem ticked_deliverTick (hc : Coherent s) (hb : s.busy = true) : Ticked s (deliverTick s) := by
  rcases hc.pos_lt_or_eq_ten with hpos | hpos
  · have hne : s.pos ≠ 10#4 := by rintro e; rw [e] at hpos; exact absurd hpos (by decide)
    rw [deliverTick_of_pos_lt hpos]
    exact ⟨rfl, rfl, by simp [symbolAt, hpos, hb], fun _ => ⟨hb, nextPos_toNat (by omega), rfl⟩, fun h => absurd h hne⟩
  · have hline := hc.line_of_pos_ten hpos
    rw [deliverTick_of_pos_ten hpos]
    exact ⟨rfl, rfl, by simp [symbolAt, hpos, hline, lineAt, frameLevels], fun h => by simp [hpos] at h,
      fun _ => ⟨rfl, rfl, rfl, hline⟩⟩

theorem Ticked.of_takeMove (h : Ticked (takeMove s) t) : Ticked s t := by
  obtain ⟨pending, tsPeriod, trace, next, last⟩ := h
  simp only [takeMove_pending, takeMove_tsPeriod, takeMove_trace, takeMove_pos, takeMove_tsCtrl, tickTime_takeMove] at *
  exact ⟨pending, tsPeriod, trace, next, last⟩

theorem Ticked.keepTickDue (h : Ticked s t) : Ticked s (keepTickDue t) :=
  ⟨h.pending, h.tsPeriod, h.trace, h.next, h.last⟩

/-- One cycle of a tick source that counts: the period completes and a tick falls due, or the count goes up (R27). -/
theorem clockCycle_of_counting (h : counting s = true) :
    (s.tsPeriod ≤ s.tsCount + 1 ∧ clockCycle s = { s with now := s.now + 1, tsCount := 0, tsDue := true }) ∨
    (s.tsCount + 1 < s.tsPeriod ∧ clockCycle s = { s with now := s.now + 1, tsCount := s.tsCount + 1 }) := by
  have heq : clockCycle s = countCycle { s with now := s.now + 1 } := if_pos h
  rcases countCycle_cases { s with now := s.now + 1 } with ⟨hend, e⟩ | ⟨hend, e⟩
  · exact .inl ⟨of_decide_eq_true hend, heq.trans e⟩
  · exact .inr ⟨Nat.lt_of_not_le (of_decide_eq_false hend), heq.trans e⟩

theorem clockCycle_of_not_counting (h : counting s = false) : clockCycle s = { s with now := s.now + 1 } := by
  simp [clockCycle, h]

/-- A cycle that leaves no tick due has counted up, or left the counter (R27). -/
theorem clockCycle_waits (s : State) (hd : (clockCycle s).tsDue = false) :
    s.tsDue = false ∧ s.tsCount ≤ (clockCycle s).tsCount := by
  cases hcount : counting s with
  | true =>
    rcases clockCycle_of_counting hcount with ⟨-, e⟩ | ⟨-, e⟩ <;> rw [e] at hd ⊢
    · cases hd
    · exact ⟨hd, Nat.le_succ _⟩
  | false =>
    rw [clockCycle_of_not_counting hcount] at hd ⊢
    exact ⟨hd, le_refl _⟩

/-- What a step can do to a frame in flight. -/
inductive FrameMove (s t : State) : Prop where
  /-- The frame stands as it was. A tick that was due still is, and while none is due the counter does not go back. -/
  | kept (same : SameFrame s t) (waits : t.tsDue = false → s.tsDue = false ∧ s.tsCount ≤ t.tsCount)
  /-- The TICK of its position was delivered. -/
  | ticked (enabled : deliveryEnabled s = true) (turn : turnOf (scheduledMove s) = some .ts) (result : Ticked s t)

theorem step_frameMove (hc : Coherent s) (hb : s.busy = true) (h : step s = .next t) : FrameMove s t := by
  have hcm : Coherent (takeMove s) := hc.of_sameBlock (sameBlock_takeMove s)
  have hticked : Ticked s (deliverTick (takeMove s)) := (ticked_deliverTick hcm (by simpa using hb)).of_takeMove
  cases step_effect h with
  | same h => exact .kept h.sameFrame fun hd => ⟨h.tsDue ▸ hd, h.tsCount.ge⟩
  | init fresh => rw [hc.inited_of_busy hb] at fresh; cases fresh
  | commit _ _ idle => rw [hb] at idle; cases idle
  | tick enabled turn e => rw [e]; exact .ticked enabled turn hticked
  | tickKept enabled turn _ e => rw [e]; exact .ticked enabled (by rw [turn]; rfl) hticked.keepTickDue
  | gie _ _ _ e => rw [e]; exact .kept (by constructor <;> simp) fun hd => ⟨by simpa using hd, by simp⟩
  | due _ _ e => rw [e]; exact .kept (by constructor <;> simp) fun hd => by cases hd
  | cycle _ _ e =>
    have hwaits := clockCycle_waits (takeMove s)
    obtain ⟨_, _, f, -⟩ := clockCycle_fields (takeMove s)
    rw [e]
    exact .kept (by rw [f]; constructor <;> simp) (by simpa using hwaits)

/-- Between frames a step commits a SEND, or the transmitter stays idle and the position stays 0. -/
theorem step_of_idle (hc : Coherent s) (hb : s.busy = false) (h : step s = .next t) :
    (t.busy = false ∧ t.pos = s.pos) ∨
      (scheduledMove s = .issue .fg ∧ s.inited = true ∧ ∃ b, t = sendCommit b (takeMove s)) := by
  have hnot : deliveryEnabled s ≠ true := fun hd => by rw [hc.busy_of_deliveryEnabled hd] at hb; cases hb
  cases step_effect h with
  | same h => exact .inl ⟨h.busy.trans hb, h.pos⟩
  | init _ _ _ e => rw [e, initTransmitter_eq]; exact .inl (by simp [hb])
  | commit b inited _ turn e => exact .inr ⟨turn, inited, b, e⟩
  | tick enabled => exact absurd enabled hnot
  | tickKept enabled => exact absurd enabled hnot
  | gie _ _ _ e => rw [e]; exact .inl (by simp [hb])
  | due _ _ e => rw [e]; exact .inl (by simp [hb])
  | cycle _ _ e =>
    obtain ⟨_, _, f, -⟩ := clockCycle_fields (takeMove s)
    rw [e, f]
    exact .inl (by simp [hb])

/-- Settles O36: a commit finds position 0, where nothing of the frame is in the trace yet; inside a frame a TICK appends
the symbol of its position as it moves on. -/
theorem stepKeepsTheFrameInTheTrace : Obligations.StepKeepsTheFrameInTheTrace := by
  intro s t hc hf h htb
  cases hb : s.busy with
  | false =>
    rcases step_of_idle hc hb h with ⟨hidle, -⟩ | ⟨-, -, b, rfl⟩
    · rw [htb] at hidle; cases hidle
    · exact ⟨obsOf (sendCommit b (takeMove s)), by simp [hc.idlePos hb]⟩
  | true =>
    obtain ⟨earlier, hobs⟩ := hf hb
    cases step_frameMove hc hb h with
    | kept same => exact ⟨earlier, by rw [same.pos, same.pending, ← hobs, obsOf, obsOf, same.trace]⟩
    | ticked _ _ result =>
      rcases hc.pos_lt_or_eq_ten with hpos | hpos
      · obtain ⟨-, hnext, -⟩ := result.next hpos
        refine ⟨earlier, ?_⟩
        rw [result.pending, hnext, frameObs_take_succ _ hpos.le, ← List.append_assoc, ← hobs]
        simp [obsOf, result.trace]
      · rw [(result.last hpos).1] at htb; cases htb

/-- Settles O39: a step of a frame keeps it as it stands or delivers its TICK, and only the TICK at position 10 ends it. -/
theorem frameRunsToItsEnd : Obligations.FrameRunsToItsEnd := by
  intro s t hc hb h
  cases step_frameMove hc hb h with
  | kept same => exact ⟨same.pending, .inl ⟨same.busy.trans hb, same.tsCtrl⟩⟩
  | ticked _ turn result =>
    refine ⟨result.pending, ?_⟩
    rcases hc.pos_lt_or_eq_ten with hpos | hpos
    · obtain ⟨hbusy, -, hctrl⟩ := result.next hpos
      exact .inl ⟨hbusy, hctrl⟩
    · obtain ⟨hidle, hzero, hstop, -⟩ := result.last hpos
      exact .inr ⟨hidle, hpos, hzero, hstop, turn⟩

/-- Settles O41: with `GIE = 0` no TICK is delivered, and all else keeps the frame as it stands. -/
theorem maskedFrameStandsStill : Obligations.MaskedFrameStandsStill := by
  intro s t hc hb hgie h
  cases step_frameMove hc hb h with
  | kept same => exact ⟨same.pos, same.line, same.busy.trans hb, same.pending, same.tsCtrl, same.trace⟩
  | ticked enabled => rw [(deliveryEnabled_iff.1 enabled).2.2] at hgie; cases hgie

/-- Settles O11: a final state is idle, and coherence says what an idle state looks like. -/
theorem finalStateIsIdle : Obligations.FinalStateIsIdle :=
  fun _ hc ⟨_, hidle, _, _⟩ => ⟨hc.idlePos hidle, hc.stopped hidle, fun hi => hc.idleHigh hi hidle⟩

end Sys2Proof.Safety
end

section
/-! The trace over a step (spec/00_scope.md R14). -/

namespace Sys2Proof.Safety

open Sys2Proof.Machine

variable {s t : State}

/-- A TICK of positions 0 to 10 appends the pair as it stands after it, whether or not the line changes (R14). -/
theorem deliverTick_trace (h : s.pos.toNat ≤ 10) :
    (deliverTick s).trace =
      s.trace ++ [{ obs := .tick (deliverTick s).line (deliverTick s).busy, time := tickTime s }] := by
  rcases Nat.lt_or_eq_of_le h with hpos | hpos
  · rw [deliverTick_of_pos_lt hpos]
  · rw [deliverTick_of_pos_ten (BitVec.eq_of_toNat_eq hpos)]

/-- The entry of INIT, where the level or its drive changed (R14, R100). -/
theorem initTransmitter_trace (s : State) :
    ((initTransmitter s).trace = s.trace ∧ (initTransmitter s).line = s.line ∧
      (initTransmitter s).lineDriven = s.lineDriven) ∨
    ((initTransmitter s).trace = s.trace ++ [{ obs := .level (initTransmitter s).line, time := s.now }] ∧
      ((initTransmitter s).line ≠ s.line ∨ (initTransmitter s).lineDriven ≠ s.lineDriven)) := by
  rw [initTransmitter_eq]
  by_cases h : s.line = true ∧ s.lineDriven = true
  · exact .inl (by simp [h])
  · refine .inr ⟨by simp [h], ?_⟩
    by_contra hno
    rw [not_or, not_not, not_not] at hno
    exact h ⟨hno.1.symm, hno.2.symm⟩

/-- The three things that a step can do to the trace (R14). -/
theorem step_trace (h : step s = .next t) :
    (t.trace = s.trace ∧ t.line = s.line ∧ t.lineDriven = s.lineDriven) ∨
    (t.trace = s.trace ++ [{ obs := .level t.line, time := s.now }] ∧
      (t.line ≠ s.line ∨ t.lineDriven ≠ s.lineDriven)) ∨
    (t.trace = s.trace ++ [{ obs := .tick t.line t.busy, time := tickTime s }] ∧
      turnOf (scheduledMove s) = some .ts) := by
  cases step_effect h with
  | same h => exact .inl ⟨h.trace, h.line, h.lineDriven⟩
  | init _ _ _ e =>
    have hinit := initTransmitter_trace (takeMove s)
    rw [← e] at hinit
    simp only [takeMove_trace, takeMove_line, takeMove_lineDriven, takeMove_now] at hinit
    exact hinit.imp_right .inl
  | commit _ _ _ _ e => rw [e, sendCommit_eq]; exact .inl (by simp)
  | tick _ turn e =>
    by_cases hpos : s.pos.toNat ≤ 10
    · have htrace := deliverTick_trace (s := takeMove s) (by simpa using hpos)
      rw [← e, takeMove_trace, tickTime_takeMove] at htrace
      exact .inr (.inr ⟨htrace, turn⟩)
    · rw [e, deliverTick_of_pos_out_of_range (by simpa using hpos)]
      exact .inl (by simp)
  | tickKept _ turn last e =>
    have htrace := deliverTick_trace (s := takeMove s) (by simp [last])
    rw [takeMove_trace, tickTime_takeMove] at htrace
    rw [e]
    exact .inr (.inr ⟨htrace, by rw [turn]; rfl⟩)
  | gie _ _ _ e => rw [e]; exact .inl (by simp)
  | due _ _ e => rw [e]; exact .inl (by simp)
  | cycle _ _ e =>
    obtain ⟨_, _, f, -⟩ := clockCycle_fields (takeMove s)
    rw [e, f]
    exact .inl (by simp)

/-- Settles O43: a step appends the pair of its TICK, the new level of INIT, or nothing. -/
theorem traceRecordsEveryChangeOfTheLine : Obligations.TraceRecordsEveryChangeOfTheLine :=
  ⟨fun _ _ => step_trace, fun _ hd hpos => ⟨_, exec_tick_of_deliveryEnabled hd, deliverTick_trace hpos⟩⟩

/-- Nothing is taken back from the trace. -/
theorem step_trace_grows (h : step s = .next t) : ∃ added, t.trace = s.trace ++ added := by
  rcases step_trace h with ⟨e, -⟩ | ⟨e, -⟩ | ⟨e, -⟩
  · exact ⟨[], by rw [e, List.append_nil]⟩
  · exact ⟨_, e⟩
  · exact ⟨_, e⟩

end Sys2Proof.Safety
end

section
/-! Runs: what every step keeps holds of the state after every run, and a SEND that holds while interrupts are masked
(spec/70_reset_and_hazards.md R188). -/

namespace Sys2Proof.Safety

open Sys2Proof.Machine

/-- What a step keeps, where the states before its steps meet `H`, holds after a run that meets `H` on its way. -/
theorem run_keeps {I H : State → Prop} (hkeeps : ∀ v w, I v → H v → step v = .next w → I w) {n : Nat} {s t : State}
    (hs : I s) (hH : ∀ k v, k < n → Sys2Proof.core.run k s = .next v → H v) (h : Sys2Proof.core.run n s = .next t) :
    I t := by
  induction n generalizing s with
  | zero => cases h; exact hs
  | succ n ih =>
    obtain ⟨u, hstep, hrun⟩ := coreRun_succ_cases h
    refine ih (hkeeps s u hs (hH 0 s (Nat.succ_pos n) rfl) hstep) (fun k v hk hv => ?_) hrun
    exact hH (k + 1) v (by omega) ((coreRun_of_step hstep).trans hv)

variable {s t : State}

/-- Without a word HOST's turn changes nothing (R10). -/
theorem issueStep_of_no_word {a : Issuer} (h : nextWord a s = none) : issueStep a s = .next s := by
  unfold issueStep
  split
  · rfl
  · rw [h]

theorem nextWord_eq_none {a : Issuer} (ha : a ≠ .ts) (hw : (agentOf a s).ops = []) : nextWord a s = none := by
  simp [nextWord, hw, ha]

/-- An agent other than TS that has no word to issue stays as it is. -/
theorem step_keeps_agent_without_words {a : Issuer} (ha : a ≠ .ts) (hw : (agentOf a s).ops = [])
    (h : step s = .next t) : agentOf a t = agentOf a s := by
  by_cases hturn : turnOf (scheduledMove s) = some a
  · obtain ⟨u, hu, ht⟩ := step_turn h hturn
    rw [issueStep_of_no_word (by rw [nextWord_takeMove]; exact nextWord_eq_none ha hw)] at hu
    cases hu
    rcases ht with rfl | rfl <;> simp
  · exact step_agentOf_other h hturn

/-- What holds of a SEND that holds with interrupts masked and HOST silent. -/
structure MaskedHold (fg : Agent) (pending : Byte) (pos : Pos) (v : State) : Prop where
  inited : v.inited = true
  busy : v.busy = true
  masked : v.gie = false
  silent : v.host.ops = []
  fg : v.fg = fg
  pending : v.pending = pending
  pos : v.pos = pos

theorem step_keeps_maskedHold {g : Agent} {p : Byte} {k : Pos} {b : Byte} {w : OpWord} {rest : List OpWord}
    (hw : g.ops = w :: rest) (hd : decode w = .ok (.send b)) (hm : MaskedHold g p k s) (h : step s = .next t) :
    MaskedHold g p k t := by
  obtain ⟨hi, hb, hgie, hsilent, rfl, rfl, rfl⟩ := hm
  have hfg : t.fg = s.fg := step_keeps_fg_of_heldSend hi hb hw hd h
  have hpending : t.pending = s.pending := step_keeps_pending_of_busy hb h
  have hhost : t.host.ops = [] := by
    have hkeep : agentOf .host t = agentOf .host s := step_keeps_agent_without_words (by decide) hsilent h
    rw [show t.host = s.host from hkeep, hsilent]
  have hnot : deliveryEnabled s ≠ true := fun hd => by rw [(deliveryEnabled_iff.1 hd).2.2] at hgie; cases hgie
  suffices hblock : t.inited = true ∧ t.busy = true ∧ t.gie = false ∧ t.pos = s.pos from
    ⟨hblock.1, hblock.2.1, hblock.2.2.1, hhost, hfg, hpending, hblock.2.2.2⟩
  cases step_effect h with
  | same h => exact ⟨h.inited.trans hi, h.busy.trans hb, h.gie.trans hgie, h.pos⟩
  | init fresh => rw [hi] at fresh; cases fresh
  | commit _ _ idle => rw [hb] at idle; cases idle
  | tick enabled => exact absurd enabled hnot
  | tickKept enabled => exact absurd enabled hnot
  | gie _ _ words => exact absurd hsilent words
  | due _ _ e => rw [e]; exact ⟨by simpa using hi, by simpa using hb, by simpa using hgie, by simp⟩
  | cycle _ _ e =>
    obtain ⟨_, _, f, -⟩ := clockCycle_fields (takeMove s)
    rw [e, f]
    exact ⟨by simpa using hi, by simpa using hb, by simpa using hgie, by simp⟩

theorem issueEnabled_of_no_word {a : Issuer} (h : nextWord a s = none) : issueEnabled a s = false := by
  simp [issueEnabled, h]

/-- An operation that its agent may issue and that holds gives the agent no step. -/
theorem issueEnabled_of_holdsNow {a : Issuer} {w : OpWord} {i : Instr} (hw : nextWord a s = some w)
    (hd : decode w = .ok i) (hi : issuerOf i = some a) (hh : holdsNow i s = true) : issueEnabled a s = false := by
  simp [issueEnabled, wordEnabled, hw, hd, checkIssuer_none.2 hi, hh]

theorem decode_tickWord : decode tickWord = .ok .tick := decode_eq_ok_iff.2 (by decide)

/-- At the untimed level, with a tick due that cannot be delivered and only a held SEND to issue, the state is stuck (R188). -/
theorem step_of_maskedHold {b : Byte} {w : OpWord} {rest : List OpWord} (hi : s.inited = true) (hb : s.busy = true)
    (hgie : s.gie = false) (hhost : s.host.ops = []) (hw : s.fg.ops = w :: rest) (hd : decode w = .ok (.send b))
    (hwf : s.cfg.wellFormed = true) (hlevel : s.cfg.level = .untimed) (hdue : s.tsDue = true) (hts : s.ts.ops = [])
    (hfg2 : s.fg2.ops = []) (hisr : s.isr.ops = []) : step s = .fault .stuck := by
  have hfg : issueEnabled .fg s = false :=
    issueEnabled_of_holdsNow (w := w) (by simp [nextWord, agentOf, hw]) hd rfl (by simp [holdsNow, hi, hb])
  have htick : issueEnabled .ts s = false :=
    issueEnabled_of_holdsNow (w := tickWord) (by simp [nextWord, agentOf, hts]) decode_tickWord rfl
      (by simp [holdsNow, deliveryEnabled, hgie])
  have hsilent {a : Issuer} (ha : a ≠ .ts) (h : (agentOf a s).ops = []) : issueEnabled a s = false :=
    issueEnabled_of_no_word (nextWord_eq_none ha h)
  have hnone : someStepEnabled s = false := by
    simp [someStepEnabled, hfg, htick, hsilent (a := .host) (by decide) hhost, hsilent (a := .fg2) (by decide) hfg2,
      hsilent (a := .isr) (by decide) hisr, dueEnabled, hdue, counting, hlevel]
  have hover : runIsOver s = false := by simp [runIsOver, hw]
  simp [step, scheduleStep, hwf, hnone, hover]

/-- Settles O42: every step keeps the hold, so every run does; and no agent has a step once a tick is due. -/
theorem maskedSendHoldsForEver : Obligations.MaskedSendHoldsForEver := by
  intro s b w rest hi hb hgie hhost hw hd
  refine ⟨fun n t hrun => ?holds, step_of_maskedHold hi hb hgie hhost hw hd⟩
  case holds =>
    have hstart : MaskedHold s.fg s.pending s.pos s := ⟨hi, hb, hgie, hhost, rfl, rfl, rfl⟩
    have hend := run_keeps (H := fun _ => True) (fun _ _ hv _ hs => step_keeps_maskedHold hw hd hv hs) hstart
      (fun _ _ _ _ => trivial) hrun
    exact ⟨hend.fg, hend.busy, hend.masked, hend.pending, hend.pos⟩

end Sys2Proof.Safety
end

section
/-! The first frame of a run: what the run appends to the trace while the frame is in flight, and what stays of it afterwards
(spec/41_bit_framer.md R127). -/

namespace Sys2Proof.Safety

open Sys2Proof.Machine

/-- The entry that a TICK delivered in this state appends, if a frame is in flight (R14, R127). -/
def nextEntry (v : State) : TraceEntry := { obs := symbolAt v.pending v.pos.toNat, time := tickTime v }

/-- Since the trace was `base`, the run has appended entries that are as `I` says while the frame is in flight; after its end the
first eleven of them are as `D` says. -/
def FrameThenRest (I : State → List TraceEntry → Prop) (D : List TraceEntry → Prop) (base : List TraceEntry) (v : State) :
    Prop :=
  ∃ appended, v.trace = base ++ appended ∧
    ((v.busy = true ∧ I v appended) ∨ ∃ frame rest, appended = frame ++ rest ∧ frame.length = 11 ∧ D frame)

/-- `I` is kept by all that keeps the frame in states that meet `H`, a TICK below position 10 keeps it with its entry appended,
and the TICK at position 10 gives `D`. -/
structure FrameRule (I : State → List TraceEntry → Prop) (D : List TraceEntry → Prop) (H : State → Prop) : Prop where
  kept : ∀ {v w l}, Coherent v → H v → v.busy = true → step v = .next w → SameFrame v w → I v l → I w l
  next : ∀ {v w l}, Coherent v → H v → v.busy = true → step v = .next w → deliveryEnabled v = true → Ticked v w →
    v.pos.toNat < 10 → I v l → I w (l ++ [nextEntry v])
  last : ∀ {v l}, Coherent v → deliveryEnabled v = true → v.pos = 10#4 → I v l →
    (l ++ [nextEntry v]).length = 11 ∧ D (l ++ [nextEntry v])

variable {I : State → List TraceEntry → Prop} {D : List TraceEntry → Prop} {H : State → Prop} {base : List TraceEntry}

theorem FrameRule.step_keeps (rule : FrameRule I D H) {v w : State} (hc : Coherent v) (hv : FrameThenRest I D base v)
    (hH : H v) (h : step v = .next w) : FrameThenRest I D base w := by
  obtain ⟨appended, htrace, ⟨hb, hI⟩ | ⟨frame, rest, rfl, hlen, hD⟩⟩ := hv
  · cases step_frameMove hc hb h with
    | kept same => exact ⟨appended, same.trace.trans htrace, .inl ⟨same.busy.trans hb, rule.kept hc hH hb h same hI⟩⟩
    | ticked enabled _ result =>
      have hw : w.trace = base ++ (appended ++ [nextEntry v]) := by
        rw [result.trace, htrace, List.append_assoc]; rfl
      refine ⟨appended ++ [nextEntry v], hw, ?_⟩
      rcases hc.pos_lt_or_eq_ten with hpos | hpos
      · exact .inl ⟨(result.next hpos).1, rule.next hc hH hb h enabled result hpos hI⟩
      · obtain ⟨hlen, hD⟩ := rule.last hc enabled hpos hI
        exact .inr ⟨_, [], (List.append_nil _).symm, hlen, hD⟩
  · obtain ⟨added, hadd⟩ := step_trace_grows h
    exact ⟨frame ++ (rest ++ added), by rw [hadd, htrace, List.append_assoc, List.append_assoc],
      .inr ⟨frame, rest ++ added, rfl, hlen, hD⟩⟩

theorem FrameRule.run (rule : FrameRule I D H) {n : Nat} {s t : State} (hc : Coherent s) (hb : s.busy = true)
    (hI : I s []) (hH : ∀ k v, k < n → Sys2Proof.core.run k s = .next v → H v) (h : Sys2Proof.core.run n s = .next t) :
    Coherent t ∧ FrameThenRest I D s.trace t :=
  run_keeps (I := fun v => Coherent v ∧ FrameThenRest I D s.trace v)
    (fun _ _ hv hHv hs => ⟨stepKeepsCoherence _ _ hv.1 hs, rule.step_keeps hv.1 hv.2 hHv hs⟩)
    ⟨hc, [], (List.append_nil _).symm, .inl ⟨hb, hI⟩⟩ hH h

/-! The first eleven entries agree with a frame as far as there are entries -/

theorem take_eleven_of_take {α : Type} {F l : List α} (hF : F.length = 11) {k : Nat} (h : l = F.take k) :
    l.take 11 = F.take l.length := by
  subst h
  rw [List.take_take, List.length_take, hF, Nat.min_comm, List.take_eq_take_iff]

theorem take_eleven_of_append {α : Type} {F rest : List α} (hF : F.length = 11) :
    (F ++ rest).take 11 = F.take (F ++ rest).length := by
  rw [List.take_left' hF, List.take_of_length_le (by simp)]

/-- The symbols of the frame of `b` that have been appended so far. -/
def SymbolsSoFar (b : Byte) (v : State) (l : List TraceEntry) : Prop :=
  v.pending = b ∧ l.map TraceEntry.obs = (frameObs b).take v.pos.toNat

theorem symbols_frameRule (b : Byte) :
    FrameRule (SymbolsSoFar b) (fun l => l.map TraceEntry.obs = frameObs b) (fun _ => True) where
  kept _ _ _ _ same hI := ⟨same.pending.trans hI.1, by rw [same.pos]; exact hI.2⟩
  next := by
    rintro v w l - - - - - result hpos ⟨rfl, hobs⟩
    refine ⟨result.pending, ?_⟩
    rw [(result.next hpos).2.1, frameObs_take_succ _ hpos.le, List.map_append, hobs]
    rfl
  last := by
    rintro v l - - hpos ⟨rfl, hobs⟩
    have hall : (l ++ [nextEntry v]).map TraceEntry.obs = frameObs v.pending := by
      have hten : v.pos.toNat = 10 := by rw [hpos]; rfl
      simp only [List.map_append, hobs, List.map_cons, List.map_nil, nextEntry, hten]
      rfl
    refine ⟨?_, hall⟩
    rw [← List.length_map (f := TraceEntry.obs), hall]
    rfl

/-- Settles O45: inside the frame each TICK appends the symbol of its position, and after its end the trace only grows. -/
theorem frameSymbolsComeInOrderInEveryRun : Obligations.FrameSymbolsComeInOrderInEveryRun := by
  rintro b s t n ⟨hc, -, hb, hpos, hpending⟩ hrun
  obtain ⟨-, appended, htrace, hframe⟩ := (symbols_frameRule b).run hc hb ⟨hpending, by simp [hpos]⟩
    (fun _ _ _ _ => trivial) hrun
  refine ⟨appended.map TraceEntry.obs, by rw [obsOf, obsOf, htrace, List.map_append], ?_⟩
  rcases hframe with ⟨-, -, hobs⟩ | ⟨frame, rest, rfl, -, hall⟩
  · exact take_eleven_of_take (frameObs_length b) hobs
  · rw [List.map_append, hall]
    exact take_eleven_of_append (frameObs_length b)

end Sys2Proof.Safety
end

section
/-! The turn of the tick source (spec/41_bit_framer.md R120). -/

namespace Sys2Proof.Machine

open Sys2Proof.Safety

variable {s t : State}

theorem nextWord_ts (h : TicksOnly s) : nextWord .ts s = some tickWord := by
  unfold nextWord agentOf
  split
  next w rest hops => rw [h.words w (by simp only at hops; rw [hops]; exact List.mem_cons_self)]
  next => rfl

/-- A tick source that has nothing but TICK to issue runs TICK in its turn. -/
theorem issueStep_ts (h : TicksOnly s) : issueStep .ts s = execTick s := by
  have hlive : (agentOf .ts s).stopped = false := h.live
  simp [issueStep, hlive, nextWord_ts h, issueWord, decode_tickWord, checkIssuer_none.2 (rfl : issuerOf .tick = some .ts),
    exec]

theorem ticksOnly_of_ts_eq (h : TicksOnly s) (e : t.ts = s.ts) : TicksOnly t :=
  ⟨by rw [e]; exact h.live, by rw [e]; exact h.words⟩

theorem ticksOnly_takeMove (h : TicksOnly s) : TicksOnly (takeMove s) :=
  ticksOnly_of_ts_eq h (agentOf_takeMove .ts s)

theorem ticksOnly_deliverTick (h : TicksOnly s) (hpos : s.pos.toNat ≤ 10) : TicksOnly (deliverTick s) := by
  have hts : (deliverTick s).ts = { s.ts with ops := s.ts.ops.tail } := by
    rcases Nat.lt_or_eq_of_le hpos with hlt | h10
    · rw [deliverTick_of_pos_lt hlt]
    · rw [deliverTick_of_pos_ten (BitVec.eq_of_toNat_eq h10)]
  exact ⟨by rw [hts]; exact h.live, fun w hw => h.words w (List.mem_of_mem_tail (by rw [hts] at hw; exact hw))⟩

/-- In a coherent state no TICK faults, and TS goes on with nothing but TICK. -/
theorem step_keeps_ticksOnly (hc : Coherent s) (ht : TicksOnly s) (h : step s = .next t) : TicksOnly t := by
  by_cases hturn : turnOf (scheduledMove s) = some .ts
  · obtain ⟨u, hu, htu⟩ := step_turn h hturn
    rw [issueStep_ts (ticksOnly_takeMove ht)] at hu
    have hu' : TicksOnly u := by
      rcases execTick_cases hu with ⟨-, rfl⟩ | ⟨-, rfl⟩
      · exact ticksOnly_deliverTick (ticksOnly_takeMove ht) (by simpa using hc.pos_le_ten)
      · exact ticksOnly_takeMove ht
    rcases htu with rfl | rfl
    · exact hu'
    · exact ticksOnly_of_ts_eq hu' (agentOf_overrun .ts _ _)
  · exact ticksOnly_of_ts_eq ht (step_agentOf_other h hturn)

end Sys2Proof.Machine
end

section
/-! The phase of the tick source at the timed level: the ticks fall due whole periods after the first one
(spec/70_reset_and_hazards.md R195, R196). -/

namespace Sys2Proof.Safety

open Sys2Proof.Machine

variable {s t : State} {first K : Nat}

/-- The tick that is due, or the next one to fall due, is number `K` counted in whole periods from the time `first`. -/
structure Phase (first K : Nat) (s : State) : Prop where
  count : s.tsCount < s.tsPeriod
  due : s.tsDue = true → s.now = first + K * s.tsPeriod + s.tsCount
  waiting : s.tsDue = false → s.now + s.tsPeriod = first + K * s.tsPeriod + s.tsCount

/-- A frame is on time where the number of the tick is its position. -/
theorem onTime_iff_phase : OnTime first s ↔ Phase first s.pos.toNat s :=
  ⟨fun h => ⟨h.count, h.due, h.waiting⟩, fun h => ⟨h.count, h.due, h.waiting⟩⟩

theorem Phase.congr (h : Phase first K s) (hp : t.tsPeriod = s.tsPeriod) (hc : t.tsCount = s.tsCount) (hn : t.now = s.now)
    (hd : t.tsDue = s.tsDue) : Phase first K t := by
  obtain ⟨count, due, waiting⟩ := h
  exact ⟨by rwa [hp, hc], by rwa [hp, hc, hn, hd], by rwa [hp, hc, hn, hd]⟩

theorem Phase.takeMove (h : Phase first K s) : Phase first K (takeMove s) := h.congr (by simp) (by simp) (by simp) (by simp)

/-- A TICK has the time at which its tick fell due, however late it is delivered (R195, R196). -/
theorem Phase.tickTime (h : Phase first K s) (hlevel : s.cfg.level = .timed) (hd : deliveryEnabled s = true) :
    tickTime s = first + K * s.tsPeriod := by
  rw [tickTime_timed hlevel, h.due (deliveryEnabled_iff.1 hd).1, Nat.add_sub_cancel]

/-- The delivery of a due tick leaves the counter, so the next tick is one period after it. -/
theorem Phase.deliverTick_next (h : Phase first K s) (hd : deliveryEnabled s = true) (hpos : s.pos.toNat < 10) :
    Phase first (K + 1) (deliverTick s) := by
  have hnow := h.due (deliveryEnabled_iff.1 hd).1
  rw [deliverTick_of_pos_lt hpos]
  refine ⟨h.count, fun hdue => by simp at hdue, fun _ => ?_⟩
  simp only [Nat.add_mul, Nat.one_mul]
  omega

theorem counting_of_busy (hc : Coherent s) (hb : s.busy = true) (hlevel : s.cfg.level = .timed)
    (hlive : s.ts.stopped = false) : counting s = true := by
  simp [counting, hlevel, hlive, hc.clockSelected_iff_busy, hb]

/-- A cycle moves the counter with the clock. At the end of a period the tick falls due, or one that is due is lost and the next
one is due; where that cannot happen, the number of the tick stays. -/
theorem Phase.clockCycle_next (h : Phase first K s) (hcount : counting s = true) :
    ∃ K', K ≤ K' ∧ Phase first K' (clockCycle s) ∧ ((s.tsDue = true → periodCompletes s = false) → K' = K) := by
  obtain ⟨hlt, hdue, hwait⟩ := h
  rcases clockCycle_of_counting hcount with ⟨hend, e⟩ | ⟨hnext, e⟩ <;> rw [e]
  · have hlast : s.tsCount + 1 = s.tsPeriod := by omega
    cases hd : s.tsDue with
    | true =>
      have hnow := hdue hd
      refine ⟨K + 1, by omega, ⟨by simp only; omega, fun _ => ?_, fun h => by cases h⟩, fun hfits => ?_⟩
      · simp only [Nat.add_mul, Nat.one_mul]; omega
      · have hnot : ¬ s.tsPeriod ≤ s.tsCount + 1 := of_decide_eq_false (hfits rfl)
        exact absurd hend hnot
    | false =>
      have hnow := hwait hd
      refine ⟨K, by omega, ⟨by simp only; omega, fun _ => ?_, fun h => by cases h⟩, fun _ => rfl⟩
      simp only; omega
  · exact ⟨K, by omega, ⟨hnext, fun hd => by simp only; rw [hdue hd, Nat.add_assoc],
      fun hd => by have hnow := hwait hd; simp only; omega⟩, fun _ => rfl⟩

/-- Over a step that leaves the frame in flight, the phase goes on: by one where the TICK is delivered, else by the ticks
that are lost, which are none where the handler fits (R130, R195). -/
theorem step_phase (hc : Coherent s) (hb : s.busy = true) (hlevel : s.cfg.level = .timed) (hlive : s.ts.stopped = false)
    (hp : Phase first K s) (h : step s = .next t) (htb : t.busy = true) :
    (t.pos = s.pos ∧ ∃ K', K ≤ K' ∧ Phase first K' t ∧ (HandlerFits s → K' = K)) ∨
    (t.pos.toNat = s.pos.toNat + 1 ∧ Phase first (K + 1) t) := by
  have hpm := hp.takeMove
  have hpos_lt (hbusy : (deliverTick (takeMove s)).busy = true) : (takeMove s).pos.toNat < 10 := by
    rw [takeMove_pos]
    rcases hc.pos_lt_or_eq_ten with hpos | hpos
    · exact hpos
    · rw [deliverTick_of_pos_ten (by simpa using hpos)] at hbusy; cases hbusy
  cases step_effect h with
  | same h => exact .inl ⟨h.pos, K, le_refl K, hp.congr h.tsPeriod h.tsCount h.now h.tsDue, fun _ => rfl⟩
  | init fresh => rw [hc.inited_of_busy hb] at fresh; cases fresh
  | commit _ _ idle => rw [hb] at idle; cases idle
  | tick enabled _ e =>
    rw [e] at htb ⊢
    have hpos := hpos_lt htb
    refine .inr ⟨?_, hpm.deliverTick_next (by rwa [deliveryEnabled_takeMove]) hpos⟩
    rw [deliverTick_of_pos_lt hpos]
    simpa using nextPos_toNat (k := (takeMove s).pos) (by omega)
  | tickKept _ _ last e =>
    rw [e] at htb
    have hpos := hpos_lt htb
    simp [last] at hpos
  | gie _ _ _ e =>
    rw [e]
    exact .inl ⟨by simp, K, le_refl K, hp.congr (by simp) (by simp) (by simp) (by simp), fun _ => rfl⟩
  | due enabled => simp [dueEnabled, hlevel] at enabled
  | cycle _ turn e =>
    have hcm := hc.of_sameBlock (sameBlock_takeMove s)
    have hcount : counting (takeMove s) = true :=
      counting_of_busy hcm (by simpa using hb) (by simpa using hlevel)
        (by rw [show (takeMove s).ts = s.ts from agentOf_takeMove .ts s]; exact hlive)
    obtain ⟨K', hle, hphase, hfits⟩ := hpm.clockCycle_next hcount
    rw [e]
    refine .inl ⟨by simp, K', hle, hphase, fun hf => hfits fun hd => ?_⟩
    simpa [periodCompletes] using hf turn (by simpa using hd)

/-- Where the handler fits, a frame that is on time stays on time (R130, R195). -/
theorem step_keeps_onTime (hc : Coherent s) (hb : s.busy = true) (hlevel : s.cfg.level = .timed)
    (hlive : s.ts.stopped = false) (hfits : HandlerFits s) (hot : OnTime first s) (h : step s = .next t)
    (htb : t.busy = true) : OnTime first t := by
  rw [onTime_iff_phase] at hot ⊢
  rcases step_phase hc hb hlevel hlive hot h htb with ⟨hpos, K', -, hphase, hK⟩ | ⟨hpos, hphase⟩
  · rw [hpos, ← hK hfits]; exact hphase
  · rw [hpos]; exact hphase

/-- A commit starts the frame on time: TICK 0 falls due `L` cycles after it (R195). -/
theorem sendCommit_onTime (b : Byte) (hc : Coherent s) (hb : s.busy = false) (hlevel : s.cfg.level = .timed)
    (hcount : s.tsCount < s.tsPeriod) : OnTime (s.now + firstTickDelay s) (sendCommit b s) := by
  have hpos := hc.idlePos hb
  rw [sendCommit_eq]
  refine ⟨hcount, fun hdue => ?_, fun hdue => ?_⟩
  · have hdue' : s.tsDue = true := hdue
    simp [firstTickDelay, hdue', hpos, hc.keptDue hlevel hb hdue']
  · have hdue' : s.tsDue = false := hdue
    simp only [firstTickDelay, hdue', hpos, Bool.false_eq_true, if_false, BitVec.toNat_ofNat, Nat.zero_mod, Nat.zero_mul]
    omega

theorem exec_send_of_ready {b : Byte} (h : ReadyToSend s) : exec (.send b) s = .next (sendCommit b s) :=
  exec_send_of_idle b h.inited h.idle

/-- Settles O52: a commit starts the phase at position 0, and where the handler fits, the phase moves with the position. -/
theorem ticksStayOnTimeWhereTheHandlerFits : Obligations.TicksStayOnTimeWhereTheHandlerFits := by
  refine ⟨fun b s hr => ?starts, fun first s t => step_keeps_onTime, fun first s hot hlevel hd => ?times⟩
  case starts => exact ⟨_, exec_send_of_ready hr, rfl, sendCommit_onTime b hr.coherent hr.idle hr.timed hr.count⟩
  case times =>
    have htime := (onTime_iff_phase.1 hot).tickTime hlevel hd
    have hnow := hot.due (deliveryEnabled_iff.1 hd).1
    have hcount := hot.count
    refine ⟨by omega, ?_, htime⟩
    rw [Nat.add_mul, Nat.one_mul]
    omega

end Sys2Proof.Safety
end

section
/-! The times of the entries of the first frame in every run (spec/70_reset_and_hazards.md R195, R196). -/

namespace Sys2Proof.Safety

open Sys2Proof.Machine

theorem timedFrame_length (b : Byte) (start p : Nat) : (timedFrame b start p).length = 11 := rfl

theorem timedFrame_take_succ (b : Byte) (start p : Nat) {k : Nat} (hk : k ≤ 10) :
    (timedFrame b start p).take (k + 1) =
      (timedFrame b start p).take k ++ [{ obs := symbolAt b k, time := start + k * p }] := by
  rw [List.take_add_one, timedFrame, List.getElem?_map, List.getElem?_zipIdx, frameObs_getElem? b hk]
  simp

/-- What a step of a frame at the timed level keeps besides its phase. -/
structure TimedFlight (P : Nat) (v : State) : Prop where
  timed : v.cfg.level = .timed
  ticks : TicksOnly v
  period : v.tsPeriod = P

variable {s t v w : State} {b : Byte} {first P : Nat}

/-- No step writes the configuration (R8). -/
theorem step_cfg (h : step s = .next t) : t.cfg = s.cfg := by
  cases step_effect h with
  | same h => exact h.cfg
  | init _ _ _ e => rw [e, initTransmitter_eq]; simp
  | commit _ _ _ _ e => rw [e, sendCommit_eq]; simp
  | tick _ _ e => rw [e]; exact (sameSetting_deliverTick _).cfg.trans (takeMove_cfg s)
  | tickKept _ _ _ e => rw [e]; exact (sameSetting_deliverTick _).cfg.trans (takeMove_cfg s)
  | gie _ _ _ e => rw [e]; simp
  | due _ _ e => rw [e]; simp
  | cycle _ _ e =>
    obtain ⟨_, _, f, -⟩ := clockCycle_fields (takeMove s)
    rw [e, f]; simp

theorem TimedFlight.step (hf : TimedFlight P v) (hc : Coherent v) (h : step v = .next w) (hp : w.tsPeriod = v.tsPeriod) :
    TimedFlight P w :=
  ⟨by rw [step_cfg h]; exact hf.timed, step_keeps_ticksOnly hc hf.ticks h, hp.trans hf.period⟩

/-- The entries so far of a frame whose every tick is on time. -/
structure OnTimeSoFar (b : Byte) (first P : Nat) (v : State) (l : List TraceEntry) : Prop where
  flight : TimedFlight P v
  pending : v.pending = b
  onTime : OnTime first v
  entries : l = (timedFrame b first P).take v.pos.toNat

theorem OnTimeSoFar.nextEntry_eq {l : List TraceEntry} (h : OnTimeSoFar b first P v l) (hd : deliveryEnabled v = true) :
    nextEntry v = { obs := symbolAt b v.pos.toNat, time := first + v.pos.toNat * P } := by
  rw [nextEntry, h.pending, (onTime_iff_phase.1 h.onTime).tickTime h.flight.timed hd, h.flight.period]

theorem onTime_frameRule (b : Byte) (first P : Nat) :
    FrameRule (OnTimeSoFar b first P) (fun l => l = timedFrame b first P) HandlerFits where
  kept {v w l} hc hfits hb h same hI := by
    have hot : OnTime first w := step_keeps_onTime hc hb hI.flight.timed hI.flight.ticks.live hfits hI.onTime h
      (same.busy.trans hb)
    exact ⟨hI.flight.step hc h same.tsPeriod, same.pending.trans hI.pending, hot, by rw [same.pos]; exact hI.entries⟩
  next {v w l} hc hfits hb h hd result hpos hI := by
    obtain ⟨hwb, hnext, -⟩ := result.next hpos
    have hot : OnTime first w := step_keeps_onTime hc hb hI.flight.timed hI.flight.ticks.live hfits hI.onTime h hwb
    refine ⟨hI.flight.step hc h result.tsPeriod, result.pending.trans hI.pending, hot, ?_⟩
    rw [hnext, timedFrame_take_succ _ _ _ hpos.le, hI.entries, hI.nextEntry_eq hd]
  last {v l} hc hd hpos hI := by
    have hten : v.pos.toNat = 10 := by rw [hpos]; rfl
    have hall : l ++ [nextEntry v] = timedFrame b first P := by
      rw [hI.nextEntry_eq hd, hI.entries, hten, ← timedFrame_take_succ _ _ _ (le_refl 10)]
      rfl
    exact ⟨by rw [hall]; rfl, hall⟩

theorem ReadyToSend.flight (h : ReadyToSend s) (b : Byte) : TimedFlight s.tsPeriod (sendCommit b s) :=
  ⟨h.timed, ticksOnly_of_ts_eq h.ticks rfl, rfl⟩

/-- Settles O54: where the handler fits, the entries so far are those of the timed frame up to the position. -/
theorem tickTimesAreExactInEveryRunThatFits : Obligations.TickTimesAreExactInEveryRunThatFits := by
  intro b s u t n hr hu hfits hrun
  rw [exec_send_of_ready hr] at hu
  cases hu
  have hpos : s.pos = 0#4 := hr.coherent.idlePos hr.idle
  have hstart : OnTimeSoFar b (s.now + firstTickDelay s) s.tsPeriod (sendCommit b s) [] :=
    ⟨hr.flight b, rfl, sendCommit_onTime b hr.coherent hr.idle hr.timed hr.count, by simp [hpos]⟩
  obtain ⟨-, appended, htrace, hframe⟩ := (onTime_frameRule b _ _).run
    (coherent_sendCommit b hr.coherent hr.inited hr.idle) rfl hstart hfits hrun
  refine ⟨appended, htrace, ?_⟩
  rcases hframe with ⟨-, hI⟩ | ⟨frame, rest, rfl, -, rfl⟩
  · exact take_eleven_of_take (timedFrame_length _ _ _) hI.entries
  · exact take_eleven_of_append (timedFrame_length _ _ _)

/-- The times of the entries are whole periods after `first`, rising, and before the period `K`. -/
def WholePeriods (first P K : Nat) (l : List TraceEntry) : Prop :=
  ∃ periods : List Nat, l.map TraceEntry.time = periods.map (fun k => first + k * P) ∧ periods.Pairwise (· < ·) ∧
    ∀ k ∈ periods, k < K

theorem wholePeriods_nil (first P K : Nat) : WholePeriods first P K [] := ⟨[], rfl, .nil, by simp⟩

theorem WholePeriods.mono {K' : Nat} {l : List TraceEntry} (h : WholePeriods first P K l) (hK : K ≤ K') :
    WholePeriods first P K' l := by
  obtain ⟨ks, htimes, hrise, hlt⟩ := h
  exact ⟨ks, htimes, hrise, fun k hk => (hlt k hk).trans_le hK⟩

theorem WholePeriods.append {l : List TraceEntry} {e : TraceEntry} (h : WholePeriods first P K l)
    (he : e.time = first + K * P) : WholePeriods first P (K + 1) (l ++ [e]) := by
  obtain ⟨ks, htimes, hrise, hlt⟩ := h
  refine ⟨ks ++ [K], by simp [htimes, he], ?_, fun k hk => ?_⟩
  · rw [List.pairwise_append]
    exact ⟨hrise, List.pairwise_singleton _ _, fun k hk k' hk' => by rw [List.mem_singleton.1 hk']; exact hlt k hk⟩
  · rcases List.mem_append.1 hk with hk | hk
    · exact (hlt k hk).trans (Nat.lt_succ_self K)
    · rw [List.mem_singleton.1 hk]; exact Nat.lt_succ_self K

/-- The entries so far of a frame of which ticks may have been lost. -/
structure PhaseSoFar (first P : Nat) (v : State) (l : List TraceEntry) : Prop where
  flight : TimedFlight P v
  length : l.length = v.pos.toNat
  phase : ∃ K, Phase first K v ∧ WholePeriods first P K l

theorem phase_frameRule (first P : Nat) :
    FrameRule (PhaseSoFar first P) (fun l => ∃ K, WholePeriods first P K l) (fun _ => True) where
  kept {v w l} hc _ hb h same hI := by
    obtain ⟨K, hphase, htimes⟩ := hI.phase
    refine ⟨hI.flight.step hc h same.tsPeriod, by rw [same.pos]; exact hI.length, ?_⟩
    rcases step_phase hc hb hI.flight.timed hI.flight.ticks.live hphase h (same.busy.trans hb) with
      ⟨-, K', hle, hphase', -⟩ | ⟨hpos, -⟩
    · exact ⟨K', hphase', htimes.mono hle⟩
    · rw [same.pos] at hpos; omega
  next {v w l} hc _ hb h hd result hlt hI := by
    obtain ⟨K, hphase, htimes⟩ := hI.phase
    obtain ⟨hwb, hnext, -⟩ := result.next hlt
    have htime := hphase.tickTime hI.flight.timed hd
    rw [hI.flight.period] at htime
    refine ⟨hI.flight.step hc h result.tsPeriod, by rw [hnext, List.length_append, hI.length]; rfl, ?_⟩
    rcases step_phase hc hb hI.flight.timed hI.flight.ticks.live hphase h hwb with ⟨hpos, -⟩ | ⟨-, hphase'⟩
    · rw [hpos] at hnext; omega
    · exact ⟨K + 1, hphase', htimes.append htime⟩
  last {v l} hc hd hpos hI := by
    obtain ⟨K, hphase, htimes⟩ := hI.phase
    have htime := hphase.tickTime hI.flight.timed hd
    rw [hI.flight.period] at htime
    exact ⟨by rw [List.length_append, hI.length, hpos]; rfl, K + 1, htimes.append htime⟩

/-- Settles O55: each TICK has the time of a tick of the one phase, and each tick of it is delivered at most once. -/
theorem everySymbolLastsWholePeriods : Obligations.EverySymbolLastsWholePeriods := by
  intro b s u t n hr hu hrun
  rw [exec_send_of_ready hr] at hu
  cases hu
  have hpos : s.pos = 0#4 := hr.coherent.idlePos hr.idle
  have hot := onTime_iff_phase.1 (sendCommit_onTime b hr.coherent hr.idle hr.timed hr.count)
  have hstart : PhaseSoFar (s.now + firstTickDelay s) s.tsPeriod (sendCommit b s) [] :=
    ⟨hr.flight b, by simp [hpos], _, hot, wholePeriods_nil _ _ _⟩
  obtain ⟨hct, appended, htrace, hframe⟩ := (phase_frameRule _ _).run
    (coherent_sendCommit b hr.coherent hr.inited hr.idle) rfl hstart (fun _ _ _ _ => trivial) hrun
  have htimes : ∃ K, WholePeriods (s.now + firstTickDelay s) s.tsPeriod K (appended.take 11) := by
    rcases hframe with ⟨-, hI⟩ | ⟨frame, rest, rfl, hlen, hD⟩
    · obtain ⟨K, -, htimes⟩ := hI.phase
      have hle : appended.length ≤ 11 := by have := hct.pos_le_ten; have := hI.length; omega
      exact ⟨K, by rwa [List.take_of_length_le hle]⟩
    · rwa [List.take_left' hlen]
  obtain ⟨K, periods, hperiods, hrise, -⟩ := htimes
  exact ⟨appended, periods, htrace, hperiods, hrise⟩

end Sys2Proof.Safety
end

section
/-! The canonical form of the two records (spec/10_state.md R31, spec/60_exceptions.md R158). -/

namespace Sys2Proof.Machine

theorem GrownByAtMostOne.pairwise {α : Type} {rank : α → Nat} {before after : List α}
    (h : GrownByAtMostOne rank before after) (hp : before.Pairwise fun x y => rank x < rank y) :
    after.Pairwise fun x y => rank x < rank y := by
  rcases h with rfl | ⟨x, rfl⟩
  · exact hp
  · exact insertRanked_pairwise rank x hp

end Sys2Proof.Machine
end

section
/-! What a step answers: where some agent can step it takes the scheduled move, and an agent's turn runs or refuses its word
(spec/30_encoding.md R75, R76; spec/60_exceptions.md R154, R158, R160). -/

namespace Sys2Proof.Safety

open Sys2Proof.Machine

variable {s t u : State} {a : Issuer} {i : Instr} {w : OpWord} {r : RefusalReason}

theorem mayIssue_iff : MayIssue a i ↔ issuerOf i = some a := by
  cases i <;> simp [MayIssue, issuerOf, eq_comm]

/-- The reason of R158 for every context and every operation that it may not issue. -/
theorem checkIssuer_of_not_mayIssue (h : ¬ MayIssue a i) : checkIssuer a i = some (issuerRefusal a i) := by
  rw [checkIssuer, if_neg (mt mayIssue_iff.2 h)]
  cases i <;> cases a <;> rfl

/-! Which turns and moves give a step -/

theorem enabled_iff : Enabled i s ↔ holdsNow i s = false := by
  cases i with
  | send b => cases hi : s.inited <;> simp [Enabled, holdsNow, hi]
  | tick => simp [Enabled, holdsNow, deliveryEnabled, tickInterruptEnabled, and_assoc]
  | init => simp [Enabled, holdsNow]
  | tsStart => simp [Enabled, holdsNow]
  | tsStop => simp [Enabled, holdsNow]
  | ei => simp [Enabled, holdsNow]
  | di => simp [Enabled, holdsNow]

theorem wordEnabled_iff : wordEnabled a w s = true ↔ ∀ i, decode w = .ok i → MayIssue a i → Enabled i s := by
  unfold wordEnabled
  cases hd : decode w with
  | error r => simp
  | ok i =>
    by_cases hi : MayIssue a i
    · simp [checkIssuer_none.2 (mayIssue_iff.1 hi), hi, enabled_iff]
    · simp [checkIssuer_of_not_mayIssue hi, hi]

theorem nextWord_eq_some_iff :
    nextWord a s = some w ↔ (agentOf a s).ops.head? = some w ∨ (a = .ts ∧ s.ts.ops = [] ∧ w = 0x3000#16) := by
  unfold nextWord
  cases hops : (agentOf a s).ops with
  | cons v rest =>
    have hne : ¬ (a = .ts ∧ s.ts.ops = [] ∧ w = 0x3000#16) := by
      rintro ⟨rfl, hnil, -⟩
      rw [show s.ts.ops = _ from hops] at hnil
      cases hnil
    simp [hne]
  | nil =>
    by_cases ha : a = .ts
    · subst ha
      simp [show s.ts.ops = [] from hops, tickWord, eq_comm]
    · simp [ha]

theorem issueEnabled_iff_canStep : issueEnabled a s = true ↔ CanStep a s := by
  unfold issueEnabled CanStep
  cases hw : nextWord a s with
  | none =>
    have hno : ∀ w, ¬ ((agentOf a s).ops.head? = some w ∨ (a = .ts ∧ s.ts.ops = [] ∧ w = 0x3000#16)) := by
      intro w h
      rw [nextWord_eq_some_iff.2 h] at hw
      cases hw
    simp [hno]
  | some w =>
    have hword : ∀ v, ((agentOf a s).ops.head? = some v ∨ (a = .ts ∧ s.ts.ops = [] ∧ v = 0x3000#16)) ↔ v = w := by
      intro v
      rw [← nextWord_eq_some_iff, hw, Option.some_inj, eq_comm]
    simp only [Bool.and_eq_true, Bool.not_eq_true', hword, wordEnabled_iff, exists_eq_left]

theorem tickSourceCanStep_iff : TickSourceCanStep s ↔ dueEnabled s = true ∨ counting s = true := by
  unfold TickSourceCanStep dueEnabled counting drivingClockSelected
  cases s.cfg.level <;> simp [and_assoc]

theorem someStepEnabled_iff : someStepEnabled s = true ↔ SomeAgentCanStep s := by
  unfold someStepEnabled SomeAgentCanStep
  rw [tickSourceCanStep_iff]
  constructor
  · intro h
    simp only [Bool.or_eq_true, issueEnabled_iff_canStep] at h
    rcases h with (((((h | h) | h) | h) | h) | h) | h
    · exact .inl ⟨_, h⟩
    · exact .inl ⟨_, h⟩
    · exact .inl ⟨_, h⟩
    · exact .inl ⟨_, h⟩
    · exact .inl ⟨_, h⟩
    · exact .inr (.inl h)
    · exact .inr (.inr h)
  · rintro (⟨a, h⟩ | h | h)
    · rw [← issueEnabled_iff_canStep] at h
      cases a <;> simp [h]
    · simp [h]
    · simp [h]

theorem someStepEnabled_of_issueEnabled (h : issueEnabled a s = true) : someStepEnabled s = true :=
  someStepEnabled_iff.2 (.inl ⟨a, issueEnabled_iff_canStep.1 h⟩)

theorem runIsOver_iff : runIsOver s = true ↔ Final s := by
  simp [runIsOver, Final, and_assoc]

/-! The three answers of a step -/

theorem step_of_someStepEnabled (hwf : s.cfg.wellFormed = true) (he : someStepEnabled s = true) :
    step s = runMove (scheduledMove s) (takeMove s) := by
  simp [step, scheduleStep, hwf, he]

theorem step_of_none_enabled (hwf : s.cfg.wellFormed = true) (he : someStepEnabled s = false) :
    step s = .fault (if runIsOver s then .runOver else .stuck) := by
  simp [step, scheduleStep, hwf, he]

/-- With a well-formed configuration the step answers a next state exactly where some agent can step (R160). -/
theorem exists_step_iff (hwf : s.cfg.wellFormed = true) : (∃ t, step s = .next t) ↔ SomeAgentCanStep s := by
  rw [← someStepEnabled_iff]
  cases he : someStepEnabled s with
  | true =>
    obtain ⟨t, ht⟩ := runMove_answers (scheduledMove s) (takeMove s)
    exact iff_of_true ⟨t, (step_of_someStepEnabled hwf he).trans ht⟩ rfl
  | false => simp [step_of_none_enabled hwf he]

/-- Settles O10: with a well-formed configuration the step looks only at whether some agent can step, and then its move
always answers a next state; without one, `runIsOver` decides between the two faults. -/
theorem machineStopsOnlyWhereNoAgentCanStep : Obligations.MachineStopsOnlyWhereNoAgentCanStep := by
  refine ⟨fun s hwf => ?wellFormed, fun s r h => ?refused⟩
  case wellFormed =>
    refine ⟨exists_step_iff hwf, ?_⟩
    unfold Stuck
    rw [← someStepEnabled_iff, ← runIsOver_iff]
    cases he : someStepEnabled s with
    | true =>
      obtain ⟨t, ht⟩ := runMove_answers (scheduledMove s) (takeMove s)
      rw [step_of_someStepEnabled hwf he, ht]
      simp
    | false =>
      rw [step_of_none_enabled hwf he]
      cases runIsOver s <;> simp
  case refused =>
    cases hwf : s.cfg.wellFormed with
    | false =>
      rw [step_of_not_wellFormed (by simp [hwf])] at h
      cases h
      exact ⟨rfl, rfl⟩
    | true =>
      cases he : someStepEnabled s with
      | true =>
        obtain ⟨t, ht⟩ := runMove_answers (scheduledMove s) (takeMove s)
        rw [step_of_someStepEnabled hwf he, ht] at h
        cases h
      | false => rw [step_of_none_enabled hwf he] at h; cases h

/-! An agent's turn -/

theorem overrun_of_pos_eq (h : t.pos = s.pos) : overrun s t = t := by
  refine if_neg fun ⟨h10, h0⟩ => ?_
  rw [h, h10] at h0
  cases h0

/-- The turn of an agent whose word leaves the position: the step is that word's meaning, in an overrun too. -/
theorem step_of_turn (hwf : s.cfg.wellFormed = true) (he : someStepEnabled s = true)
    (hturn : turnOf (scheduledMove s) = some a) (hu : issueStep a (takeMove s) = .next u) (hpos : u.pos = s.pos) :
    step s = .next u := by
  rw [step_of_someStepEnabled hwf he]
  cases hm : scheduledMove s with
  | issue b =>
    rw [hm] at hturn
    cases hturn
    exact hu
  | tickOverrun =>
    rw [hm] at hturn
    cases hturn
    simp only [runMove, overrunStep, hu]
    rw [overrun_of_pos_eq (by simpa using hpos)]
  | due => rw [hm] at hturn; cases hturn
  | cycle => rw [hm] at hturn; cases hturn

theorem issueStep_of_mayIssue (hlive : (agentOf a s).stopped = false) (hw : nextWord a s = some w)
    (hd : decode w = .ok i) (hi : MayIssue a i) : issueStep a s = exec i s := by
  simp [issueStep, hlive, hw, issueWord, hd, checkIssuer_none.2 (mayIssue_iff.1 hi)]

theorem issueStep_of_wrongIssuer (hlive : (agentOf a s).stopped = false) (hw : nextWord a s = some w)
    (hd : decode w = .ok i) (hi : ¬ MayIssue a i) : issueStep a s = .next (refuse a (issuerRefusal a i) s) := by
  simp [issueStep, hlive, hw, issueWord, hd, checkIssuer_of_not_mayIssue hi]

theorem issueStep_of_undecodable (hlive : (agentOf a s).stopped = false) (hw : nextWord a s = some w)
    (hd : decode w = .error r) : issueStep a s = .next (refuse a r s) := by
  simp [issueStep, hlive, hw, issueWord, hd]

theorem issueEnabled_of_word (hlive : (agentOf a s).stopped = false) (hw : nextWord a s = some w)
    (h : ∀ i, decode w = .ok i → MayIssue a i → Enabled i s) : issueEnabled a s = true :=
  issueEnabled_iff_canStep.2 ⟨hlive, w, nextWord_eq_some_iff.1 hw, h⟩

/-- Settles O6: the turn runs the word's operation, and an operation that does not hold gives its agent a step. -/
theorem stepRunsTheDecodedOperation : Obligations.StepRunsTheDecodedOperation := by
  intro s a w i hwf hlive hw hd hi
  have hissue : issueStep a (takeMove s) = exec i (takeMove s) :=
    issueStep_of_mayIssue (by simpa using hlive) (by rwa [nextWord_takeMove]) hd hi
  have henabled (hh : holdsNow i s = false) : someStepEnabled s = true :=
    someStepEnabled_of_issueEnabled (issueEnabled_of_word hlive hw fun j hj _ => by
      rw [hd] at hj; cases hj; exact enabled_iff.2 hh)
  have hrun (hm : scheduledMove s = .issue a) (he : someStepEnabled s = true) : step s = exec i (takeMove s) := by
    rw [step_of_someStepEnabled hwf he, hm]
    exact hissue
  refine ⟨hrun, fun hm hh => hrun hm (henabled hh), fun hm hts hh => ?_⟩
  subst hts
  obtain ⟨t, ht⟩ := exec_answers i (takeMove s)
  refine ⟨t, ht, ?_⟩
  rw [step_of_someStepEnabled hwf (henabled hh), hm]
  simp only [runMove, overrunStep, hissue, ht]

/-! The refusal mark and the refusals -/

theorem mem_insertRanked_iff {α : Type} {rank : α → Nat} (hr : ∀ x y, rank x = rank y → x = y) {x y : α} {l : List α} :
    y ∈ insertRanked rank x l ↔ y = x ∨ y ∈ l := by
  refine ⟨mem_insertRanked rank, ?_⟩
  rintro (rfl | h)
  · exact insertRanked_mem_self rank hr y l
  · exact subset_insertRanked rank x l h

theorem refusalMark_iff : refusalMark s = true ↔ s.refusals ≠ [] ∨ s.cfg.wellFormed = false := by
  unfold refusalMark refusalReasons
  cases s.cfg.wellFormed <;> simp [insertRanked_ne_nil]

theorem mem_refusalReasons_iff :
    r ∈ refusalReasons s ↔ r ∈ s.refusals ∨ (r = .badConfig ∧ s.cfg.wellFormed = false) := by
  unfold refusalReasons
  cases s.cfg.wellFormed <;> simp [mem_insertRanked_iff rank_injective, or_comm]

/-- A refusal in a turn of the agent: the block and the other agents are as before, and the agent stops (R158). -/
theorem refusal_frame (hwf : s.cfg.wellFormed = true) (hturn : turnOf (scheduledMove s) = some a)
    (he : issueEnabled a s = true) (hu : issueStep a (takeMove s) = .next (refuse a r (takeMove s))) :
    ∃ t, step s = .next t ∧ SameBlock s t ∧ t.fault = s.fault ∧
      (∀ x, x ∈ t.refusals ↔ x = r ∨ x ∈ s.refusals) ∧ refusalMark t = true ∧
      (agentOf a t).stopped = true ∧ (agentOf a t).ops = (agentOf a s).ops ∧ SameAgentsBut a s t := by
  refine ⟨refuse a r (takeMove s), ?steps, (sameBlock_takeMove s).trans (sameBlock_refuse a r _), by simp, fun x => ?reasons,
    ?mark, by simp, by simp, fun b hb => ?others⟩
  case steps => exact step_of_turn hwf (someStepEnabled_of_issueEnabled he) hturn hu (by simp)
  case reasons =>
    rw [refuse_refusals, takeMove_refusals]
    exact mem_insertRanked_iff rank_injective
  case mark =>
    rw [refusalMark_iff, refuse_refusals]
    exact .inl (insertRanked_ne_nil _ _ _)
  case others => rw [agentOf_refuse_other hb, agentOf_takeMove]

/-- Settles O7: a context that may not issue the operation has its turn refused, with R158's reason. -/
theorem wrongIssuerIsRefused : Obligations.WrongIssuerIsRefused := by
  intro s a w i hwf hturn hlive hw hd hi
  have he : issueEnabled a s = true := issueEnabled_of_word hlive hw fun j hj hmay => by
    rw [hd] at hj; cases hj; exact absurd hmay hi
  exact refusal_frame hwf hturn he
    (issueStep_of_wrongIssuer (by simpa using hlive) (by rwa [nextWord_takeMove]) hd hi)

/-- Settles O8: a word that decodes to nothing is refused before its issuer is looked at. -/
theorem undecodableWordIsRefused : Obligations.UndecodableWordIsRefused := by
  intro s a w r hwf hturn hlive hw hd
  have he : issueEnabled a s = true := issueEnabled_of_word hlive hw fun j hj _ => by
    rw [hd] at hj; cases hj
  exact refusal_frame hwf hturn he
    (issueStep_of_undecodable (by simpa using hlive) (by rwa [nextWord_takeMove]) hd)

/-- Settles O60: the mark reads the recorded refusals and the configuration; the first only grow and the second is fixed. -/
theorem refusalMarkFollowsItsTable : Obligations.RefusalMarkFollowsItsTable := by
  refine ⟨fun s => refusalMark_iff, fun s => ?reasons, fun c u => ?reset, fun s t h hmark => ?kept, fun s hmark => ?final⟩
  case reasons => rw [mem_refusalReasons_iff]; simp [or_comm]
  case reset =>
    rw [Bool.eq_iff_iff, refusalMark_iff]
    simp [State.resetWith]
  case kept =>
    rw [refusalMark_iff] at hmark ⊢
    refine hmark.imp (fun hne hnil => hne ?_) (fun hbad => by rw [step_cfg h]; exact hbad)
    have hsub := (step_recordsGrow h).refusals.subset
    rw [hnil] at hsub
    exact List.subset_nil.1 hsub
  case final =>
    rintro ⟨-, -, -, hclear⟩
    rw [hmark] at hclear
    cases hclear

/-- Settles O37: a step at most inserts one element into each set, and the insertion keeps the form. -/
theorem stepKeepsCanonicalSets : Obligations.StepKeepsCanonicalSets := by
  intro s t hc h
  obtain ⟨hfault, hrefusals⟩ := step_recordsGrow h
  exact ⟨hfault.pairwise hc.fault, hrefusals.pairwise hc.refusals⟩

end Sys2Proof.Safety
end

section
/-! Faults: which operation raises which, and what a stopped agent does (spec/60_exceptions.md R151). -/

namespace Sys2Proof.Safety

open Sys2Proof.Machine

variable {s t : State} {a : Issuer} {i : Instr} {c : FaultCode}

/-- An operation answers the fault of its row in the states that the row names (R151). -/
theorem exec_of_faultRaised (h : faultRaised i s = some c) : exec i s = .next (raiseFault (faultingAgent i) c s) := by
  cases i with
  | init =>
    simp only [faultRaised] at h
    split at h
    next hi => cases h; simp [exec, execInit, hi, faultingAgent]
    next hi =>
      split at h
      next hg => cases h; simp [exec, execInit, hi, hg, faultingAgent]
      next => cases h
  | send b =>
    simp only [faultRaised] at h
    split at h
    next => cases h
    next hi => cases h; simp [exec, execSend, hi, faultingAgent]
  | tick =>
    simp only [faultRaised] at h
    split at h
    next hcond =>
      cases h
      simp only [Bool.and_eq_true, decide_eq_true_eq] at hcond
      obtain ⟨⟨⟨hdue, hie⟩, hgie⟩, hpos⟩ := hcond
      rw [exec_tick_of_deliveryEnabled (deliveryEnabled_iff.2 ⟨hdue, hie, hgie⟩), deliverTick_of_pos_out_of_range hpos]
      rfl
    next => cases h
  | tsStart => cases h
  | tsStop => cases h
  | ei => cases h
  | di => cases h

/-- The records of faults and of stopped agents are as before. -/
def NothingFaulted (s t : State) : Prop :=
  t.fault = s.fault ∧ ∀ a, (agentOf a t).stopped = (agentOf a s).stopped

theorem nothingFaulted_advance (a : Issuer) (s : State) : NothingFaulted s (advance a s) := by
  refine ⟨by simp, fun b => ?_⟩
  by_cases h : b = a
  · subst h; simp
  · rw [agentOf_advance_other h]

theorem nothingFaulted_deliverTick (h : s.pos.toNat ≤ 10) : NothingFaulted s (deliverTick s) := by
  rcases Nat.lt_or_eq_of_le h with hpos | hpos
  · rw [deliverTick_of_pos_lt hpos]
    exact ⟨rfl, fun a => by cases a <;> rfl⟩
  · rw [deliverTick_of_pos_ten (BitVec.eq_of_toNat_eq hpos)]
    exact ⟨rfl, fun a => by cases a <;> rfl⟩

/-- In all other states an operation faults nothing and stops nobody (R151). -/
theorem exec_of_no_faultRaised (h : faultRaised i s = none) : ∃ t, exec i s = .next t ∧ NothingFaulted s t := by
  obtain ⟨t, ht⟩ := exec_answers i s
  refine ⟨t, ht, ?_⟩
  cases i with
  | init =>
    rcases execInit_cases ht with ⟨hi, -⟩ | ⟨hi, hg, -⟩ | ⟨-, -, rfl⟩
    · simp [faultRaised, hi] at h
    · simp [faultRaised, hi, hg] at h
    · rw [initTransmitter_eq]
      exact ⟨rfl, fun a => by cases a <;> rfl⟩
  | send b =>
    rcases execSend_cases ht with ⟨hi, -⟩ | ⟨-, -, rfl⟩ | ⟨-, -, rfl⟩
    · simp [faultRaised, hi] at h
    · exact ⟨rfl, fun _ => rfl⟩
    · exact nothingFaulted_advance .fg _
  | tick =>
    rcases execTick_cases ht with ⟨hd, rfl⟩ | ⟨-, rfl⟩
    · obtain ⟨hdue, hie, hgie⟩ := deliveryEnabled_iff.1 hd
      refine nothingFaulted_deliverTick (Nat.le_of_not_lt fun hpos => ?_)
      simp [faultRaised, hdue, hie, hgie, Config.posMax, hpos] at h
    · exact ⟨rfl, fun _ => rfl⟩
  | tsStart => cases ht; exact ⟨rfl, fun a => by cases a <;> rfl⟩
  | tsStop => cases ht; exact ⟨rfl, fun a => by cases a <;> rfl⟩
  | ei => cases ht; exact nothingFaulted_advance .host _
  | di => cases ht; exact nothingFaulted_advance .host _

theorem issueStep_of_stopped (h : (agentOf a s).stopped = true) : issueStep a s = .next s := by
  simp [issueStep, h]

/-- A stopped agent takes no step: its own turn changes nothing, and no other turn reaches it (R151, R158). -/
theorem step_of_stopped_agent (hs : (agentOf a s).stopped = true) (h : step s = .next t) :
    agentOf a t = agentOf a s ∧ (turnOf (scheduledMove s) = some a → t = takeMove s) := by
  by_cases hturn : turnOf (scheduledMove s) = some a
  · obtain ⟨u, hu, ht⟩ := step_turn h hturn
    rw [issueStep_of_stopped (by simpa using hs)] at hu
    cases hu
    have heq : t = takeMove s := by
      rcases ht with e | e
      · exact e
      · rw [e, overrun_of_pos_eq rfl]
    exact ⟨by rw [heq, agentOf_takeMove], fun _ => heq⟩
  · exact ⟨step_agentOf_other h hturn, fun h' => absurd h' hturn⟩

/-- Settles O30: the rows of the table are the fault branches of the meanings, and a fault writes its code and stops its agent. -/
theorem faultsFollowTheTable : Obligations.FaultsFollowTheTable := by
  refine ⟨fun i s c => exec_of_faultRaised, fun i s => exec_of_no_faultRaised, fun a c s => ?frame,
    fun s t a => step_of_stopped_agent⟩
  case frame =>
    refine ⟨sameBlock_raiseFault a c s, fun x => ?_, by simp, ⟨by simp, by simp⟩, by simp, by simp,
      fun b hb => agentOf_raiseFault_other hb c s⟩
    rw [raiseFault_fault]
    exact mem_insertRanked_iff code_injective

end Sys2Proof.Safety
end

section
/-! What a step may write, element by element (spec/10_state.md R20, R26, R27; spec/41_bit_framer.md R120). -/

namespace Sys2Proof.Safety

open Sys2Proof.Machine

variable {s t : State}

/-- A delivered TICK at a position of a frame clears the due tick; another one faults and leaves the frame (R120, R126). -/
theorem deliverTick_clears_due_or_faults (s : State) :
    (s.pos.toNat ≤ 10 ∧ (deliverTick s).tsDue = false) ∨ (10 < s.pos.toNat ∧ SameBlock s (deliverTick s)) := by
  rcases Nat.lt_trichotomy s.pos.toNat 10 with hpos | hpos | hpos
  · rw [deliverTick_of_pos_lt hpos]; exact .inl ⟨hpos.le, rfl⟩
  · rw [deliverTick_of_pos_ten (BitVec.eq_of_toNat_eq hpos)]; exact .inl ⟨hpos.le, rfl⟩
  · rw [deliverTick_of_pos_out_of_range hpos]; exact .inr ⟨hpos, sameBlock_raiseFault _ _ _⟩

/-- INIT alone writes the period, the drive and `INITED`, and it needs `INITED = 0` (R26, R28, R29). -/
theorem step_keeps_setup (hi : s.inited = true) (h : step s = .next t) :
    t.inited = true ∧ t.tsPeriod = s.tsPeriod ∧ t.lineDriven = s.lineDriven := by
  have htick := sameSetting_deliverTick (takeMove s)
  cases step_effect h with
  | same h => exact ⟨h.inited.trans hi, h.tsPeriod, h.lineDriven⟩
  | init fresh => rw [hi] at fresh; cases fresh
  | commit _ _ _ _ e => rw [e, sendCommit_eq]; simp [hi]
  | tick _ _ e => rw [e, htick.inited, htick.tsPeriod, htick.lineDriven]; simp [hi]
  | tickKept _ _ _ e =>
    rw [e, keepTickDue_inited, keepTickDue_tsPeriod, keepTickDue_lineDriven, htick.inited, htick.tsPeriod, htick.lineDriven]
    simp [hi]
  | gie _ _ _ e => rw [e]; simp [hi]
  | due _ _ e => rw [e]; simp [hi]
  | cycle _ _ e =>
    obtain ⟨_, _, f, -⟩ := clockCycle_fields (takeMove s)
    rw [e, f]; simp [hi]

/-- Settles O32: no step writes the configuration, and after INIT none writes what INIT set up. -/
theorem configurationAndPeriodAreFixed : Obligations.ConfigurationAndPeriodAreFixed :=
  fun _ _ h => ⟨step_cfg h, fun hi => step_keeps_setup hi h⟩

/-- Settles O23: all but a delivered TICK keeps position and line, and clears no `BUSY`; a TICK out of range moves nothing. -/
theorem onlyADeliveredTickMovesTheFrame : Obligations.OnlyADeliveredTickMovesTheFrame := by
  intro s t h hmoves
  cases step_effect h with
  | same h => simp [h.pos, h.busy, h.line] at hmoves
  | init fresh _ _ e => simp [e, initTransmitter_eq, fresh] at hmoves
  | commit _ _ _ _ e => simp [e, sendCommit_eq] at hmoves
  | tick enabled turn e =>
    obtain ⟨hdue, hie, hgie⟩ := deliveryEnabled_iff.1 enabled
    refine ⟨turn, hdue, hie, hgie, fun hstill => ?_⟩
    rcases deliverTick_clears_due_or_faults (takeMove s) with ⟨-, hclear⟩ | ⟨-, hsame⟩
    · rw [e, hclear] at hstill; cases hstill
    · rw [← e] at hsame
      simp [hsame.pos, hsame.busy, hsame.line] at hmoves
  | tickKept enabled turn last e =>
    obtain ⟨hdue, hie, hgie⟩ := deliveryEnabled_iff.1 enabled
    exact ⟨by rw [turn]; rfl, hdue, hie, hgie, fun _ => ⟨turn, last⟩⟩
  | gie _ _ _ e => simp [e] at hmoves
  | due _ _ e => simp [e] at hmoves
  | cycle _ _ e =>
    obtain ⟨_, _, f, -⟩ := clockCycle_fields (takeMove s)
    simp [e, f] at hmoves

theorem level_of_dueEnabled (h : dueEnabled s = true) : s.cfg.level = .untimed := by
  simp only [dueEnabled, Bool.and_eq_true, decide_eq_true_eq] at h
  exact h.1.1.1

/-- Settles O29: a tick falls due, and the counter moves, where `CS = 1`; the finalize TICK that overruns starts from a due
tick, and puts the counter back at the timed level alone. -/
theorem onlyTheTickSourceMakesTicksDue : Obligations.OnlyTheTickSourceMakesTicksDue := by
  intro s t h
  have htick := sameSetting_deliverTick (takeMove s)
  cases step_effect h with
  | same h => simp +contextual [h.tsDue, h.tsCount, h.now]
  | init _ _ _ e => simp +contextual [e, initTransmitter_eq]
  | commit _ _ _ _ e => simp +contextual [e, sendCommit_eq]
  | tick enabled _ e => simp [e, htick.tsCount, htick.now, (deliveryEnabled_iff.1 enabled).1]
  | tickKept enabled turn last e =>
    simp +contextual [e, htick.cfg, htick.tsCount, htick.now, (deliveryEnabled_iff.1 enabled).1, turn, last]
  | gie _ _ _ e => simp +contextual [e]
  | due enabled turn e =>
    simp [e, turn, level_of_dueEnabled enabled, drivingClockSelected_of_dueEnabled enabled]
  | cycle timed turn e =>
    obtain ⟨c, d, f, -, hcount⟩ := clockCycle_fields (takeMove s)
    have hcs (hne : d ≠ s.tsDue ∨ c ≠ s.tsCount) : drivingClockSelected s = true := by
      have hsel := drivingClockSelected_of_counting (hcount (by simpa using hne))
      simpa [drivingClockSelected] using hsel
    rw [e, f]
    refine ⟨fun hno hdue => ⟨hcs (.inl ?_), .inr ⟨timed, turn⟩⟩, fun hne => ⟨timed, .inl ⟨hcs (.inr hne), turn⟩⟩,
      fun _ => ⟨timed, turn, by simp⟩⟩
    rw [hno]
    exact fun hd => by rw [show d = true from hdue] at hd; cases hd

/-- Settles O59: a cycle counts up to the period and no further, and all else keeps the counter or puts it to zero. -/
theorem stepKeepsTheCounterInRange : Obligations.StepKeepsTheCounterInRange := by
  intro s t hi hlt h
  have htick := sameSetting_deliverTick (takeMove s)
  cases step_effect h with
  | same h => rw [h.tsCount, h.tsPeriod]; exact hlt
  | init fresh => rw [hi] at fresh; cases fresh
  | commit _ _ _ _ e => rw [e, sendCommit_eq]; simpa using hlt
  | tick _ _ e => rw [e, htick.tsCount, htick.tsPeriod]; simpa using hlt
  | tickKept _ _ _ e =>
    rw [e, keepTickDue_tsCount, keepTickDue_tsPeriod, htick.tsCount, htick.tsPeriod]
    split <;> simp <;> omega
  | gie _ _ _ e => rw [e]; simpa using hlt
  | due _ _ e => rw [e]; simpa using hlt
  | cycle _ _ e =>
    rw [e]
    cases hcount : counting (takeMove s) with
    | true =>
      rcases clockCycle_of_counting hcount with ⟨-, f⟩ | ⟨hnext, f⟩ <;> rw [f]
      · simp only [takeMove_tsPeriod]; omega
      · exact hnext
    | false => rw [clockCycle_of_not_counting hcount]; simpa using hlt

theorem encode_send (b : Byte) : encode (.send b) = 0x2000#16 ||| b.setWidth 16 := by
  revert b; decide

/-- Settles O13: the branches of the wait step, and the end of a frame, which is its TICK at position 10. -/
theorem sendWaitStep : Obligations.SendWaitStep := by
  refine ⟨fun b => ⟨decode_eq_ok_iff.2 (encode_send b), rfl⟩, fun b s hi => by simp [exec, execSend, hi],
    fun b s hi hb => by simp [exec, execSend, hi, hb, hold], fun b s => exec_send_of_idle b,
    fun s t hc hb h hend => ?lifts⟩
  case lifts =>
    cases step_frameMove hc hb h with
    | kept same => rw [same.busy, hb] at hend; cases hend
    | ticked enabled turn result =>
      rcases hc.pos_lt_or_eq_ten with hpos | hpos
      · rw [(result.next hpos).1] at hend; cases hend
      · exact ⟨turn, hpos, enabled⟩

/-- Settles O24: the move `due` is taken, and it does something exactly where R120 enables it. -/
theorem tickFallsDueAtTheUntimedLevel : Obligations.TickFallsDueAtTheUntimedLevel := by
  intro s hwf hlevel hlive hmove
  have hiff : dueEnabled (takeMove s) = (drivingClockSelected s && !s.tsDue) := by
    rw [dueEnabled_takeMove]; simp [dueEnabled, hlevel, hlive]
  refine ⟨fun hcs hdue => ?falls, fun hno t h => ?none⟩
  case falls =>
    have he : someStepEnabled s = true :=
      someStepEnabled_iff.2 (.inr (tickSourceCanStep_iff.2 (.inl (by rw [← dueEnabled_takeMove, hiff, hcs, hdue]; rfl))))
    rw [step_of_someStepEnabled hwf he, hmove]
    simp [runMove, hiff, hcs, hdue, tickFallsDue]
  case none =>
    have hnot : dueEnabled (takeMove s) = false := by
      rw [hiff]
      rcases hno with hcs | hdue
      · simp [hcs]
      · simp [hdue]
    obtain ⟨-, -, hrun⟩ := step_next.1 h
    rw [hmove] at hrun
    simp only [runMove, hnot] at hrun
    cases hrun
    rfl

end Sys2Proof.Safety
end

section
/-! Infinite schedules: one move more, and what every state on the way keeps (spec/41_bit_framer.md R120). -/

namespace Sys2Proof.Safety

open Sys2Proof.Machine

/-- The state with one move scheduled, as `afterMoves` steps it. -/
def scheduled (mv : Move) (s : State) : State := { s with sched := [mv] }

variable {m : Nat → Move} {s t v w : State} {mv : Move} {n : Nat}

@[simp] theorem scheduledMove_scheduled (mv : Move) (s : State) : scheduledMove (scheduled mv s) = mv := rfl

theorem sameBlock_scheduled (mv : Move) (s : State) : SameBlock s (scheduled mv s) := by constructor <;> rfl

theorem afterMoves_succ_of_step (h : step (scheduled (m n) (afterMoves m s n)) = .next t) : afterMoves m s (n + 1) = t := by
  rw [afterMoves, show ({ afterMoves m s n with sched := [m n] } : State) = scheduled (m n) (afterMoves m s n) from rfl, h]

theorem afterMoves_succ_cases (m : Nat → Move) (s : State) (n : Nat) :
    step (scheduled (m n) (afterMoves m s n)) = .next (afterMoves m s (n + 1)) ∨
      afterMoves m s (n + 1) = afterMoves m s n := by
  rw [afterMoves, show ({ afterMoves m s n with sched := [m n] } : State) = scheduled (m n) (afterMoves m s n) from rfl]
  cases step (scheduled (m n) (afterMoves m s n)) with
  | next t => exact .inl rfl
  | fault f => exact .inr rfl
  | refused r => exact .inr rfl

/-- What every step keeps holds throughout. -/
theorem afterMoves_keeps {I : State → Prop} (hkeeps : ∀ mv v w, I v → step (scheduled mv v) = .next w → I w) (hs : I s)
    (n : Nat) : I (afterMoves m s n) := by
  induction n with
  | zero => exact hs
  | succ n ih =>
    rcases afterMoves_succ_cases m s n with h | h
    · exact hkeeps _ _ _ ih h
    · rw [h]; exact ih

/-- The moves from some point on are the schedule of the state at that point. -/
theorem afterMoves_add (m : Nat → Move) (s : State) (n k : Nat) :
    afterMoves (fun j => m (n + j)) (afterMoves m s n) k = afterMoves m s (n + k) := by
  induction k with
  | zero => rfl
  | succ k ih => rw [afterMoves, ih, ← Nat.add_assoc, afterMoves]

/-- What the liveness statements ask of the state at the start, and every step keeps. -/
structure Going (s : State) : Prop where
  coherent : Coherent s
  wellFormed : s.cfg.wellFormed = true
  ticks : TicksOnly s

theorem Going.scheduled (h : Going s) (mv : Move) : Going (scheduled mv s) :=
  ⟨h.coherent.of_sameBlock (sameBlock_scheduled mv s), h.wellFormed, ticksOnly_of_ts_eq h.ticks rfl⟩

theorem Going.step (h : Going s) (hs : step s = .next t) : Going t :=
  ⟨stepKeepsCoherence _ _ h.coherent hs, by rw [step_cfg hs]; exact h.wellFormed,
    step_keeps_ticksOnly h.coherent h.ticks hs⟩

theorem Going.afterMoves (h : Going s) (m : Nat → Move) (n : Nat) : Going (afterMoves m s n) :=
  afterMoves_keeps (fun mv _ _ hv hs => (hv.scheduled mv).step hs) h n

/-! The turn of TS with a TICK that can be delivered -/

theorem issueEnabled_ts (ht : TicksOnly s) (hd : deliveryEnabled s = true) : issueEnabled .ts s = true :=
  issueEnabled_of_word ht.live (nextWord_ts ht) fun i hi _ => by
    rw [decode_tickWord] at hi; cases hi; exact enabled_iff.2 (by simp [holdsNow, hd])

theorem issueStep_ts_of_deliveryEnabled (ht : TicksOnly s) (hd : deliveryEnabled s = true) :
    issueStep .ts (takeMove s) = .next (deliverTick (takeMove s)) := by
  rw [issueStep_ts (ticksOnly_takeMove ht)]
  exact if_pos (by rwa [deliveryEnabled_takeMove])

theorem step_issue_ts (hwf : s.cfg.wellFormed = true) (ht : TicksOnly s) (hd : deliveryEnabled s = true)
    (hm : scheduledMove s = .issue .ts) : step s = .next (deliverTick (takeMove s)) := by
  rw [step_of_someStepEnabled hwf (someStepEnabled_of_issueEnabled (issueEnabled_ts ht hd)), hm]
  exact issueStep_ts_of_deliveryEnabled ht hd

theorem step_tickOverrun (hwf : s.cfg.wellFormed = true) (ht : TicksOnly s) (hd : deliveryEnabled s = true)
    (hm : scheduledMove s = .tickOverrun) : step s = .next (overrun (takeMove s) (deliverTick (takeMove s))) := by
  rw [step_of_someStepEnabled hwf (someStepEnabled_of_issueEnabled (issueEnabled_ts ht hd)), hm]
  simp only [runMove, overrunStep, issueStep_ts_of_deliveryEnabled ht hd]

theorem turnOf_eq_ts (h : turnOf mv = some .ts) : mv = .issue .ts ∨ mv = .tickOverrun := by
  cases mv with
  | issue a => cases h; exact .inl rfl
  | tickOverrun => exact .inr rfl
  | due => cases h
  | cycle => cases h

/-- Either turn of TS delivers the TICK of the frame. -/
theorem step_ts_turn (hgo : Going s) (hd : deliveryEnabled s = true) (hturn : turnOf (scheduledMove s) = some .ts) :
    ∃ t, step s = .next t ∧ Ticked s t := by
  have hcm : Coherent (takeMove s) := hgo.coherent.of_sameBlock (sameBlock_takeMove s)
  have hticked : Ticked s (deliverTick (takeMove s)) :=
    (ticked_deliverTick hcm (hcm.busy_of_deliveryEnabled (by rwa [deliveryEnabled_takeMove]))).of_takeMove
  rcases turnOf_eq_ts hturn with hm | hm
  · exact ⟨_, step_issue_ts hgo.wellFormed hgo.ticks hd hm, hticked⟩
  · refine ⟨_, step_tickOverrun hgo.wellFormed hgo.ticks hd hm, ?_⟩
    rcases overrun_cases (takeMove s) (deliverTick (takeMove s)) with e | ⟨-, -, e⟩ <;> rw [e]
    · exact hticked
    · exact hticked.keepTickDue

theorem step_due (hwf : s.cfg.wellFormed = true) (hd : dueEnabled s = true) (hm : scheduledMove s = .due) :
    step s = .next (tickFallsDue (takeMove s)) := by
  rw [step_of_someStepEnabled hwf (someStepEnabled_iff.2 (.inr (tickSourceCanStep_iff.2 (.inl hd)))), hm]
  simp [runMove, dueEnabled_takeMove, hd]

theorem step_cycle (hwf : s.cfg.wellFormed = true) (hcount : counting s = true) (hm : scheduledMove s = .cycle) :
    step s = .next (clockCycle (takeMove s)) := by
  have hlevel : s.cfg.level = .timed := by
    simp only [counting, Bool.and_eq_true, decide_eq_true_eq] at hcount
    exact hcount.1.1
  rw [step_of_someStepEnabled hwf (someStepEnabled_iff.2 (.inr (tickSourceCanStep_iff.2 (.inr hcount)))), hm]
  simp [runMove, hlevel]

theorem counting_takeMove (s : State) : counting (takeMove s) = counting s := by
  have hts := agentOf_takeMove .ts s
  simp only [agentOf] at hts
  simp [counting, drivingClockSelected, hts]

end Sys2Proof.Safety
end

section
/-! Under a fair schedule the frame in flight completes (spec/70_reset_and_hazards.md R198). -/

namespace Sys2Proof.Safety

open Sys2Proof.Machine

variable {m : Nat → Move} {s t u : State} {n N : Nat}

theorem SameFrame.refl (s : State) : SameFrame s s := by constructor <;> rfl

theorem SameFrame.trans (h : SameFrame s t) (g : SameFrame t u) : SameFrame s u where
  busy := g.busy.trans h.busy
  pending := g.pending.trans h.pending
  pos := g.pos.trans h.pos
  tsCtrl := g.tsCtrl.trans h.tsCtrl
  tsPeriod := g.tsPeriod.trans h.tsPeriod
  line := g.line.trans h.line
  trace := g.trace.trans h.trace

theorem Ticked.of_scheduled {mv : Move} (h : Ticked (scheduled mv s) t) : Ticked s t :=
  ⟨h.pending, h.tsPeriod, h.trace, h.next, h.last⟩

theorem Ticked.obsOf (h : Ticked s t) : obsOf t = obsOf s ++ [symbolAt s.pending s.pos.toNat] := by
  simp [Safety.obsOf, h.trace]

/-- One move while a frame is in flight keeps the frame or delivers its TICK. -/
theorem afterMoves_frame (hgo : Going s) (hb : (afterMoves m s n).busy = true) :
    (SameFrame (afterMoves m s n) (afterMoves m s (n + 1)) ∧
      ((afterMoves m s (n + 1)).tsDue = false →
        (afterMoves m s n).tsDue = false ∧ (afterMoves m s n).tsCount ≤ (afterMoves m s (n + 1)).tsCount)) ∨
    Ticked (afterMoves m s n) (afterMoves m s (n + 1)) := by
  rcases afterMoves_succ_cases m s n with h | h
  · have hsame := (sameBlock_scheduled (m n) (afterMoves m s n)).sameFrame
    cases step_frameMove ((hgo.afterMoves m n).scheduled (m n)).coherent hb h with
    | kept same waits => exact .inl ⟨hsame.trans same, waits⟩
    | ticked _ _ result => exact .inr result.of_scheduled
  · rw [h]
    exact .inl ⟨.refl _, fun hd => ⟨hd, le_refl _⟩⟩

/-- From `N` on the frame stands still, although TICKs could be delivered. -/
def StandsFrom (m : Nat → Move) (s : State) (N : Nat) : Prop :=
  ∀ k, N ≤ k → (afterMoves m s k).busy = true ∧ (afterMoves m s k).gie = true ∧
    ¬ Ticked (afterMoves m s k) (afterMoves m s (k + 1))

theorem StandsFrom.stays (hgo : Going s) (hst : StandsFrom m s N) {k : Nat} (hk : N ≤ k) :
    SameFrame (afterMoves m s k) (afterMoves m s (k + 1)) ∧
      ((afterMoves m s (k + 1)).tsDue = false →
        (afterMoves m s k).tsDue = false ∧ (afterMoves m s k).tsCount ≤ (afterMoves m s (k + 1)).tsCount) := by
  obtain ⟨hb, -, hno⟩ := hst k hk
  exact (afterMoves_frame hgo hb).resolve_right hno

/-- No tick is due in a frame that stands still: fairness would deliver it. -/
theorem StandsFrom.none_due (hgo : Going s) (hfair : TickSourceFair m s) (hst : StandsFrom m s N) {k : Nat} (hk : N ≤ k) :
    (afterMoves m s k).tsDue = false := by
  by_contra hdue
  have hstays : ∀ j, k ≤ j → (afterMoves m s j).tsDue = true := by
    intro j hj
    induction j, hj using Nat.le_induction with
    | base => simpa using hdue
    | succ j hj ih =>
      by_contra hno
      obtain ⟨-, hwaits⟩ := hst.stays hgo (hk.trans hj)
      rw [(hwaits (by simpa using hno)).1] at ih
      cases ih
  have hdeliver : ∀ j, k ≤ j → deliveryEnabled (afterMoves m s j) = true := fun j hj => by
    obtain ⟨hb, hgie, -⟩ := hst j (hk.trans hj)
    exact deliveryEnabled_iff.2 ⟨hstays j hj, (running_fields ((hgo.afterMoves m j).coherent.running hb)).1, hgie⟩
  obtain ⟨j, hj, hturn⟩ := hfair.deliver k fun j hj => issueEnabled_ts (hgo.afterMoves m j).ticks (hdeliver j hj)
  obtain ⟨t, ht, hticked⟩ := step_ts_turn ((hgo.afterMoves m j).scheduled (m j)) (hdeliver j hj) hturn
  refine (hst j (hk.trans hj)).2.2 ?_
  rw [afterMoves_succ_of_step ht]
  exact hticked.of_scheduled

theorem StandsFrom.count_mono (hgo : Going s) (hfair : TickSourceFair m s) (hst : StandsFrom m s N) {k j : Nat}
    (hk : N ≤ k) (hj : k ≤ j) : (afterMoves m s k).tsCount ≤ (afterMoves m s j).tsCount := by
  induction j, hj using Nat.le_induction with
  | base => exact le_refl _
  | succ j hj ih =>
    have hnone := hst.none_due hgo hfair (k := j + 1) (by omega)
    exact ih.trans ((hst.stays hgo (hk.trans hj)).2 hnone).2

theorem StandsFrom.period_eq (hgo : Going s) (hst : StandsFrom m s N) {k : Nat} (hk : N ≤ k) :
    (afterMoves m s k).tsPeriod = (afterMoves m s N).tsPeriod := by
  induction k, hk using Nat.le_induction with
  | base => rfl
  | succ k hk ih => exact (hst.stays hgo hk).1.tsPeriod.trans ih

/-- Where no tick falls due, a fair driving clock counts without end, and stays below the period. -/
theorem StandsFrom.cycle_counts (hgo : Going s) (hfair : TickSourceFair m s) (hst : StandsFrom m s N)
    (hcount : ∀ k, N ≤ k → counting (afterMoves m s k) = true) {k : Nat} (hk : N ≤ k) :
    ∃ j, k ≤ j ∧ (afterMoves m s k).tsCount + 1 ≤ (afterMoves m s j).tsCount ∧
      (afterMoves m s k).tsCount + 1 < (afterMoves m s N).tsPeriod := by
  obtain ⟨j, hj, hmove⟩ := hfair.cycle k fun j hj => hcount j (hk.trans hj)
  have hmono := hst.count_mono hgo hfair hk hj
  have hstep : step (scheduled (m j) (afterMoves m s j)) = .next (clockCycle (takeMove (scheduled (m j) (afterMoves m s j)))) :=
    step_cycle ((hgo.afterMoves m j).scheduled (m j)).wellFormed (hcount j (hk.trans hj)) hmove
  have hnext := afterMoves_succ_of_step hstep
  have hnone := hst.none_due hgo hfair (k := j + 1) (by omega)
  have hperiod := hst.period_eq hgo (hk.trans hj)
  rcases clockCycle_of_counting (s := takeMove (scheduled (m j) (afterMoves m s j))) (hcount j (hk.trans hj)) with
    ⟨-, e⟩ | ⟨hlt, e⟩
  · rw [hnext, e] at hnone; cases hnone
  · have hlt' : (afterMoves m s j).tsCount + 1 < (afterMoves m s j).tsPeriod := hlt
    refine ⟨j + 1, by omega, ?_, by omega⟩
    rw [hnext, e]
    exact Nat.succ_le_succ hmono

theorem StandsFrom.count_unbounded (hgo : Going s) (hfair : TickSourceFair m s) (hst : StandsFrom m s N)
    (hcount : ∀ k, N ≤ k → counting (afterMoves m s k) = true) (c : Nat) :
    ∃ k, N ≤ k ∧ c ≤ (afterMoves m s k).tsCount := by
  induction c with
  | zero => exact ⟨N, le_refl N, Nat.zero_le _⟩
  | succ c ih =>
    obtain ⟨k, hk, hc⟩ := ih
    obtain ⟨j, hj, hnext, -⟩ := hst.cycle_counts hgo hfair hcount hk
    exact ⟨j, hk.trans hj, by omega⟩

/-- Under a fair schedule no frame stands still: a tick falls due, by its own move or by the clock, and is delivered. -/
theorem not_standsFrom (hgo : Going s) (hfair : TickSourceFair m s) : ¬ StandsFrom m s N := by
  intro hst
  have hcs : ∀ k, N ≤ k → drivingClockSelected (afterMoves m s k) = true := fun k hk => by
    rw [(hgo.afterMoves m k).coherent.clockSelected_iff_busy, (hst k hk).1]
  have hcfg : ∀ k, (afterMoves m s k).cfg = s.cfg := fun k =>
    afterMoves_keeps (I := fun v => v.cfg = s.cfg) (fun mv v w hv h => (step_cfg h).trans hv) rfl k
  cases hlevel : s.cfg.level with
  | untimed =>
    have hdue : ∀ k, N ≤ k → dueEnabled (afterMoves m s k) = true := fun k hk => by
      simp [dueEnabled, hcfg k, hlevel, (hgo.afterMoves m k).ticks.live, hcs k hk, hst.none_due hgo hfair hk]
    obtain ⟨k, hk, hmove⟩ := hfair.due N hdue
    have hnext := afterMoves_succ_of_step (step_due ((hgo.afterMoves m k).scheduled (m k)).wellFormed (hdue k hk) hmove)
    have hnone := hst.none_due hgo hfair (k := k + 1) (by omega)
    rw [hnext] at hnone
    cases hnone
  | timed =>
    have hcount : ∀ k, N ≤ k → counting (afterMoves m s k) = true := fun k hk => by
      simp [counting, hcfg k, hlevel, (hgo.afterMoves m k).ticks.live, hcs k hk]
    obtain ⟨k, hk, hc⟩ := hst.count_unbounded hgo hfair hcount (afterMoves m s N).tsPeriod
    obtain ⟨-, -, -, hlt⟩ := hst.cycle_counts hgo hfair hcount hk
    omega

/-- The next TICK of the frame in flight is delivered, and until then the frame stands. -/
theorem exists_ticked (hgo : Going s) (hfair : TickSourceFair m s) (hun : UnmaskedDuringFrame m s)
    (hbusy : ∀ k, k ≤ n → (afterMoves m s k).busy = true) :
    ∃ k, n ≤ k ∧ SameFrame (afterMoves m s n) (afterMoves m s k) ∧ (∀ j, j ≤ k → (afterMoves m s j).busy = true) ∧
      Ticked (afterMoves m s k) (afterMoves m s (k + 1)) := by
  by_contra hno
  have hstands : ∀ k, n ≤ k → SameFrame (afterMoves m s n) (afterMoves m s k) ∧
      ∀ j, j ≤ k → (afterMoves m s j).busy = true := by
    intro k hk
    induction k, hk using Nat.le_induction with
    | base => exact ⟨.refl _, hbusy⟩
    | succ k hk ih =>
      obtain ⟨hsame, hall⟩ := ih
      rcases afterMoves_frame hgo (hall k (le_refl k)) with ⟨hstep, -⟩ | hticked
      · refine ⟨hsame.trans hstep, fun j hj => ?_⟩
        rcases Nat.le_succ_iff.1 hj with hj | rfl
        · exact hall j hj
        · exact hstep.busy.trans (hall k (le_refl k))
      · exact absurd ⟨k, hk, hsame, hall, hticked⟩ hno
  obtain ⟨n₀, hgie⟩ := hun
  refine not_standsFrom (N := max n n₀) hgo hfair fun k hk => ?_
  obtain ⟨hsame, hall⟩ := hstands k (by omega)
  exact ⟨hall k (le_refl k), hgie k (by omega) hall, fun hticked => hno ⟨k, by omega, hsame, hall, hticked⟩⟩

/-- The frame in flight completes: its remaining TICKs are delivered one by one. -/
theorem frame_completes (hgo : Going s) (hfair : TickSourceFair m s) (hun : UnmaskedDuringFrame m s)
    (hbusy : ∀ k, k ≤ n → (afterMoves m s k).busy = true) :
    ∃ e, n < e ∧ (∀ k, k < e → (afterMoves m s k).busy = true) ∧ (afterMoves m s e).busy = false ∧
      (afterMoves m s e).pos = 0#4 ∧
      obsOf (afterMoves m s e) =
        obsOf (afterMoves m s n) ++ (frameObs (afterMoves m s n).pending).drop (afterMoves m s n).pos.toNat := by
  induction hd : 10 - (afterMoves m s n).pos.toNat generalizing n with
  | zero =>
    obtain ⟨k, hk, hsame, hall, hticked⟩ := exists_ticked hgo hfair hun hbusy
    have hten : (afterMoves m s n).pos = 10#4 := by
      rcases (hgo.afterMoves m n).coherent.pos_lt_or_eq_ten with h | h
      · omega
      · exact h
    obtain ⟨hidle, hpos, -⟩ := hticked.last (hsame.pos.trans hten)
    refine ⟨k + 1, by omega, fun j hj => hall j (by omega), hidle, hpos, ?_⟩
    rw [hticked.obsOf, hsame.pending, hsame.pos, hten, obsOf, obsOf, hsame.trace]
    rfl
  | succ d ih =>
    obtain ⟨k, hk, hsame, hall, hticked⟩ := exists_ticked hgo hfair hun hbusy
    have hlt : (afterMoves m s n).pos.toNat < 10 := by omega
    obtain ⟨hnextbusy, hnextpos, -⟩ := hticked.next (by rw [hsame.pos]; exact hlt)
    rw [hsame.pos] at hnextpos
    have hall' : ∀ j, j ≤ k + 1 → (afterMoves m s j).busy = true := fun j hj => by
      rcases Nat.le_succ_iff.1 hj with hj | rfl
      · exact hall j hj
      · exact hnextbusy
    obtain ⟨e, he, hbefore, hidle, hpos, hobs⟩ := ih hall' (by omega)
    refine ⟨e, by omega, hbefore, hidle, hpos, ?_⟩
    rw [hobs, hticked.obsOf, hticked.pending, hnextpos, hsame.pending, hsame.pos, frameObs_drop_eq_cons _ hlt.le,
      List.append_assoc, obsOf, obsOf, hsame.trace]
    rfl

/-- Settles O47: the TICKs of the frame in flight are delivered one by one, and nothing else is appended meanwhile. -/
theorem everyFairScheduleCompletesTheFrame : Obligations.EveryFairScheduleCompletesTheFrame := by
  intro m s hfair hun hc hb hwf ht
  obtain ⟨e, -, -, hidle, hpos, hobs⟩ := frame_completes (n := 0) ⟨hc, hwf, ht⟩ hfair hun
    (fun k hk => by rw [Nat.le_zero.1 hk]; exact hb)
  exact ⟨e, hidle, hpos, hobs⟩

end Sys2Proof.Safety
end

section
/-! An agent's own state over its turn, and the work that is left to the contexts beside FG and TS (spec/10_state.md R24;
spec/60_exceptions.md R151, R158). -/

namespace Sys2Proof.Safety

open Sys2Proof.Machine

variable {s t : State} {a : Issuer} {i : Instr}

/-- The agent has been stopped, or has issued its word. -/
def TurnTaken (g g' : Agent) : Prop := g' = { g with stopped := true } ∨ g' = { g with ops := g.ops.tail }

theorem deliverTick_turnTaken (s : State) : TurnTaken s.ts (deliverTick s).ts := by
  rcases Nat.lt_trichotomy s.pos.toNat 10 with hpos | hpos | hpos
  · rw [deliverTick_of_pos_lt hpos]; exact .inr rfl
  · rw [deliverTick_of_pos_ten (BitVec.eq_of_toNat_eq hpos)]; exact .inr rfl
  · rw [deliverTick_of_pos_out_of_range hpos]; exact .inl rfl

/-- An operation holds, or its agent takes its turn (R13, R24). -/
theorem exec_turnTaken {t : State} (h : exec i s = .next t) (hi : issuerOf i = some a) :
    (holdsNow i s = true ∧ t = s) ∨ TurnTaken (agentOf a s) (agentOf a t) := by
  cases i with
  | init =>
    cases hi
    rcases execInit_cases h with ⟨-, rfl⟩ | ⟨-, -, rfl⟩ | ⟨-, -, rfl⟩
    · exact .inr (.inl rfl)
    · exact .inr (.inl rfl)
    · rw [initTransmitter_eq]; exact .inr (.inr rfl)
  | send b =>
    cases hi
    rcases execSend_cases h with ⟨-, rfl⟩ | ⟨hi, hb, rfl⟩ | ⟨-, -, rfl⟩
    · exact .inr (.inl rfl)
    · exact .inl ⟨by simp [holdsNow, hi, hb], rfl⟩
    · exact .inr (.inr rfl)
  | tick =>
    cases hi
    rcases execTick_cases h with ⟨-, rfl⟩ | ⟨hd, rfl⟩
    · exact .inr (deliverTick_turnTaken s)
    · exact .inl ⟨by simp [holdsNow, hd], rfl⟩
  | tsStart => cases hi
  | tsStop => cases hi
  | ei => cases hi; cases h; exact .inr (.inr rfl)
  | di => cases hi; cases h; exact .inr (.inr rfl)

/-- An agent that has a step takes its turn; another one changes nothing. -/
theorem issueStep_turnTaken (h : issueStep a s = .next t) :
    (issueEnabled a s = false ∧ t = s) ∨ TurnTaken (agentOf a s) (agentOf a t) := by
  cases hlive : (agentOf a s).stopped with
  | true =>
    rw [issueStep_of_stopped hlive] at h
    cases h
    exact .inl ⟨by simp [issueEnabled, hlive], rfl⟩
  | false =>
    cases hw : nextWord a s with
    | none =>
      rw [issueStep_of_no_word hw] at h
      cases h
      exact .inl ⟨issueEnabled_of_no_word hw, rfl⟩
    | some w =>
      cases hd : decode w with
      | error r =>
        rw [issueStep_of_undecodable hlive hw hd] at h
        cases h
        exact .inr (.inl (agentOf_refuse_self a r s))
      | ok i =>
        by_cases hi : MayIssue a i
        · rw [issueStep_of_mayIssue hlive hw hd hi] at h
          refine (exec_turnTaken h (mayIssue_iff.1 hi)).imp_left fun ⟨hh, e⟩ => ⟨?_, e⟩
          exact issueEnabled_of_holdsNow hw hd (mayIssue_iff.1 hi) hh
        · rw [issueStep_of_wrongIssuer hlive hw hd hi] at h
          cases h
          exact .inr (.inl (agentOf_refuse_self a _ s))

theorem issueEnabled_takeMove (a : Issuer) (s : State) : issueEnabled a (takeMove s) = issueEnabled a s := by
  rw [Bool.eq_iff_iff, issueEnabled_iff_canStep, issueEnabled_iff_canStep]
  have hts : (takeMove s).ts = s.ts := agentOf_takeMove .ts s
  have hen (i : Instr) : Enabled i (takeMove s) ↔ Enabled i s := by cases i <;> simp [Enabled]
  simp [CanStep, hts, hen]

/-- The turn of an agent in a step. -/
theorem step_turnTaken (h : step s = .next t) (hturn : turnOf (scheduledMove s) = some a) :
    (issueEnabled a s = false ∧ agentOf a t = agentOf a s) ∨ TurnTaken (agentOf a s) (agentOf a t) := by
  obtain ⟨u, hu, ht⟩ := step_turn h hturn
  have hagent : agentOf a t = agentOf a u := by
    rcases ht with rfl | rfl
    · rfl
    · exact agentOf_overrun a _ _
  rw [hagent, ← agentOf_takeMove a s, ← issueEnabled_takeMove]
  exact (issueStep_turnTaken hu).imp_left fun ⟨hno, e⟩ => ⟨hno, by rw [e]⟩

/-- How many words the agent can still issue. -/
def wordsLeft (g : Agent) : Nat := if g.stopped then 0 else g.ops.length

theorem TurnTaken.wordsLeft_le {g g' : Agent} (h : TurnTaken g g') : wordsLeft g' ≤ wordsLeft g := by
  rcases h with rfl | rfl
  · simp [wordsLeft]
  · cases hg : g.stopped <;> simp [wordsLeft, hg]

theorem TurnTaken.wordsLeft_lt {g g' : Agent} (h : TurnTaken g g') (hlive : g.stopped = false) (hops : g.ops ≠ []) :
    wordsLeft g' < wordsLeft g := by
  have hlen := List.length_pos_iff.2 hops
  rcases h with rfl | rfl
  · simpa [wordsLeft, hlive] using hlen
  · simp only [wordsLeft, hlive, List.length_tail, Bool.false_eq_true, if_false]; omega

theorem step_wordsLeft_le (h : step s = .next t) (a : Issuer) : wordsLeft (agentOf a t) ≤ wordsLeft (agentOf a s) := by
  by_cases hturn : turnOf (scheduledMove s) = some a
  · rcases step_turnTaken h hturn with ⟨-, e⟩ | htaken
    · rw [e]
    · exact htaken.wordsLeft_le
  · rw [step_agentOf_other h hturn]

/-- An agent other than TS that has a step has a word for it. -/
theorem live_and_words_of_issueEnabled (ha : a ≠ .ts) (h : issueEnabled a s = true) :
    (agentOf a s).stopped = false ∧ (agentOf a s).ops ≠ [] := by
  obtain ⟨hlive, w, hw | ⟨hts, -⟩, -⟩ := issueEnabled_iff_canStep.1 h
  · exact ⟨hlive, fun hnil => by rw [hnil] at hw; cases hw⟩
  · exact absurd hts ha

theorem step_wordsLeft_lt (h : step s = .next t) (ha : a ≠ .ts) (hm : scheduledMove s = .issue a)
    (he : issueEnabled a s = true) : wordsLeft (agentOf a t) < wordsLeft (agentOf a s) := by
  obtain ⟨hlive, hops⟩ := live_and_words_of_issueEnabled ha he
  rcases step_turnTaken h (a := a) (by rw [hm]; rfl) with ⟨hno, -⟩ | htaken
  · rw [he] at hno; cases hno
  · exact htaken.wordsLeft_lt hlive hops

/-- What HOST and the contexts that issue nothing of the block's can still issue. -/
def otherWork (s : State) : Nat := wordsLeft s.host + wordsLeft s.fg2 + wordsLeft s.isr

theorem step_otherWork_le (h : step s = .next t) : otherWork t ≤ otherWork s := by
  have hhost := step_wordsLeft_le h .host
  have hfg2 := step_wordsLeft_le h .fg2
  have hisr := step_wordsLeft_le h .isr
  simp only [agentOf] at hhost hfg2 hisr
  simp only [otherWork]
  omega

theorem step_otherWork_lt (h : step s = .next t) (hts : a ≠ .ts) (hfg : a ≠ .fg) (hm : scheduledMove s = .issue a)
    (he : issueEnabled a s = true) : otherWork t < otherWork s := by
  have hlt := step_wordsLeft_lt h hts hm he
  have hhost := step_wordsLeft_le h .host
  have hfg2 := step_wordsLeft_le h .fg2
  have hisr := step_wordsLeft_le h .isr
  simp only [agentOf] at hhost hfg2 hisr
  simp only [otherWork]
  cases a with
  | fg => exact absurd rfl hfg
  | ts => exact absurd rfl hts
  | host => simp only [agentOf] at hlt; omega
  | fg2 => simp only [agentOf] at hlt; omega
  | isr => simp only [agentOf] at hlt; omega

end Sys2Proof.Safety
end

section
/-! Between frames: under a schedule that does not idle, FG gets its turn (spec/70_reset_and_hazards.md R198). -/

namespace Sys2Proof.Safety

open Sys2Proof.Machine

variable {m : Nat → Move} {s t : State} {mv : Move} {n k : Nat}

/-- Between frames no tick can fall due and none can be delivered, so only the other agents have steps. -/
theorem moveEnabled_of_idle (hgo : Going s) (hidle : s.busy = false) (he : moveEnabled mv s = true) :
    ∃ a, mv = .issue a ∧ a ≠ .ts ∧ issueEnabled a s = true := by
  have hcs : drivingClockSelected s = false := hgo.coherent.clockSelected_iff_busy.trans hidle
  have hd : deliveryEnabled s = false := by
    by_contra hd
    rw [hgo.coherent.busy_of_deliveryEnabled (by simpa using hd)] at hidle
    cases hidle
  have hts : issueEnabled .ts s = false :=
    issueEnabled_of_holdsNow (nextWord_ts hgo.ticks) decode_tickWord rfl (by simp [holdsNow, hd])
  cases mv with
  | issue a =>
    refine ⟨a, rfl, fun e => ?_, he⟩
    rw [e, moveEnabled, hts] at he
    cases he
  | tickOverrun => rw [moveEnabled, hts] at he; cases he
  | due => simp [moveEnabled, dueEnabled, hcs] at he
  | cycle => simp [moveEnabled, counting, hcs] at he

/-- Between frames every word that FG has gives it a step, since SEND does not hold. -/
theorem issueEnabled_fg_of_idle (hidle : s.busy = false) (hlive : s.fg.stopped = false) (hops : s.fg.ops ≠ []) :
    issueEnabled .fg s = true := by
  obtain ⟨w, rest, hw⟩ := List.exists_cons_of_ne_nil hops
  refine issueEnabled_of_word (w := w) hlive (by simp [nextWord, agentOf, hw]) fun i _ hi => ?_
  cases i with
  | init => exact trivial
  | send b => exact .inr hidle
  | tick => cases hi
  | tsStart => exact trivial
  | tsStop => exact trivial
  | ei => exact trivial
  | di => exact trivial

/-- While FG does not get its turn, no frame begins, FG stays where it is, and the others' work does not grow. -/
theorem afterMoves_wait (hgo : Going s) (hidle : (afterMoves m s n).busy = false) (hk : n ≤ k)
    (hno : ∀ j, n ≤ j → j < k → m j ≠ .issue .fg) :
    (afterMoves m s k).busy = false ∧ (afterMoves m s k).fg = (afterMoves m s n).fg ∧
      otherWork (afterMoves m s k) ≤ otherWork (afterMoves m s n) := by
  induction k, hk using Nat.le_induction with
  | base => exact ⟨hidle, rfl, le_refl _⟩
  | succ k hk ih =>
    obtain ⟨hb, hfg, hwork⟩ := ih fun j hj hjk => hno j hj (by omega)
    rcases afterMoves_succ_cases m s k with h | h
    · have hmove := hno k hk (Nat.lt_succ_self k)
      have hturn : turnOf (scheduledMove (scheduled (m k) (afterMoves m s k))) ≠ some .fg := fun e => hmove (by
        rw [scheduledMove_scheduled] at e
        cases hm : m k with
        | issue a => rw [hm] at e; cases e; rfl
        | tickOverrun => rw [hm] at e; cases e
        | due => rw [hm] at e; cases e
        | cycle => rw [hm] at e; cases e)
      have hagent : agentOf .fg _ = agentOf .fg _ := step_agentOf_other h hturn
      refine ⟨?_, Eq.trans hagent hfg, (step_otherWork_le h).trans hwork⟩
      rcases step_of_idle ((hgo.afterMoves m k).scheduled (m k)).coherent hb h with ⟨hstill, -⟩ | ⟨hm, -⟩
      · exact hstill
      · exact absurd hm hmove
    · rw [h]; exact ⟨hb, hfg, hwork⟩

/-- Between frames FG gets its turn: the steps that the schedule takes before use up the work of the other contexts. -/
theorem fg_gets_turn (hgo : Going s) (hbusy : NeverIdles m s) (hidle : (afterMoves m s n).busy = false)
    (hlive : (afterMoves m s n).fg.stopped = false) (hops : (afterMoves m s n).fg.ops ≠ []) :
    ∃ k, n ≤ k ∧ m k = .issue .fg ∧
      ∀ j, n ≤ j → j ≤ k → (afterMoves m s j).busy = false ∧ (afterMoves m s j).fg = (afterMoves m s n).fg := by
  induction hwork : otherWork (afterMoves m s n) using Nat.strong_induction_on generalizing n with
  | _ work ih =>
    subst hwork
    obtain ⟨k, hk, he⟩ := hbusy n (someStepEnabled_of_issueEnabled (issueEnabled_fg_of_idle hidle hlive hops))
    by_cases hturn : ∃ j, n ≤ j ∧ m j = .issue .fg ∧ j ≤ k
    · have hleast := Nat.find_spec hturn
      obtain ⟨hj, hmove, -⟩ := hleast
      refine ⟨Nat.find hturn, hj, hmove, fun i hi hik => ?_⟩
      obtain ⟨hb, hfg, -⟩ := afterMoves_wait hgo hidle hi fun l hl hli hml =>
        Nat.find_min hturn (m := l) (by omega) ⟨hl, hml, by have := Nat.find_spec hturn; omega⟩
      exact ⟨hb, hfg⟩
    · have hno : ∀ j, n ≤ j → j ≤ k → m j ≠ .issue .fg := fun j hj hjk hm => hturn ⟨j, hj, hm, hjk⟩
      obtain ⟨hb, hfg, hle⟩ := afterMoves_wait hgo hidle hk fun j hj hjk => hno j hj hjk.le
      obtain ⟨hb', hfg', -⟩ := afterMoves_wait hgo hidle (k := k + 1) (by omega) fun j hj hjk => hno j hj (by omega)
      obtain ⟨a, hm, hts, hea⟩ := moveEnabled_of_idle (hgo.afterMoves m k) hb he
      have hstep : step (scheduled (m k) (afterMoves m s k)) = .next (afterMoves m s (k + 1)) := by
        obtain ⟨t, ht⟩ := runMove_answers (m k) (takeMove (scheduled (m k) (afterMoves m s k)))
        have hanswer : step (scheduled (m k) (afterMoves m s k)) = .next t :=
          (step_of_someStepEnabled ((hgo.afterMoves m k).scheduled (m k)).wellFormed
            (someStepEnabled_of_issueEnabled (s := afterMoves m s k) hea)).trans ht
        rw [hanswer, afterMoves_succ_of_step hanswer]
      have hlt : otherWork (afterMoves m s (k + 1)) < otherWork (afterMoves m s k) :=
        step_otherWork_lt (s := scheduled (m k) (afterMoves m s k)) hstep hts (fun e => hno k hk (le_refl k) (by rw [hm, e])) hm hea
      obtain ⟨j, hj, hmove, hall⟩ := ih _ (by omega) hb' (by rw [hfg']; exact hlive) (by rw [hfg']; exact hops) rfl
      refine ⟨j, by omega, hmove, fun i hi hij => ?_⟩
      rcases Nat.lt_or_ge k i with hki | hki
      · obtain ⟨hbi, hfgi⟩ := hall i hki hij
        exact ⟨hbi, hfgi.trans hfg'⟩
      · obtain ⟨hbi, hfgi, -⟩ := afterMoves_wait hgo hidle hi fun l hl hli => hno l hl (by omega)
        exact ⟨hbi, hfgi⟩

/-- In its turn between frames FG issues its word. -/
theorem afterMoves_fg_turn (hgo : Going s) (hm : m n = .issue .fg) (hidle : (afterMoves m s n).busy = false)
    (hlive : (afterMoves m s n).fg.stopped = false) (hops : (afterMoves m s n).fg.ops ≠ []) :
    step (scheduled (m n) (afterMoves m s n)) = .next (afterMoves m s (n + 1)) ∧
      issueStep .fg (takeMove (scheduled (m n) (afterMoves m s n))) = .next (afterMoves m s (n + 1)) := by
  have hen := issueEnabled_fg_of_idle hidle hlive hops
  have hrun : step (scheduled (m n) (afterMoves m s n)) = issueStep .fg (takeMove (scheduled (m n) (afterMoves m s n))) := by
    rw [step_of_someStepEnabled ((hgo.afterMoves m n).scheduled (m n)).wellFormed
      (someStepEnabled_of_issueEnabled (s := afterMoves m s n) hen), scheduledMove_scheduled, hm]
    rfl
  obtain ⟨t, ht⟩ := issueStep_answers .fg (takeMove (scheduled (m n) (afterMoves m s n)))
  have hnext := afterMoves_succ_of_step (hrun.trans ht)
  exact ⟨by rw [hrun, ht, hnext], by rw [ht, hnext]⟩

/-- FG stays at a SEND that holds for as long as the frame in flight lasts. -/
theorem afterMoves_keeps_heldSend {c : Byte} {w : OpWord} {rest : List OpWord} (hgo : Going s)
    (hw : s.fg.ops = w :: rest) (hd : decode w = .ok (.send c)) {e : Nat}
    (hbefore : ∀ k, k < e → (afterMoves m s k).busy = true) (hk : k ≤ e) : (afterMoves m s k).fg = s.fg := by
  induction k with
  | zero => rfl
  | succ k ih =>
    have hfg := ih (by omega)
    have hb := hbefore k (by omega)
    rcases afterMoves_succ_cases m s k with h | h
    · have hi := (hgo.afterMoves m k).coherent.inited_of_busy hb
      have hheld : (scheduled (m k) (afterMoves m s k)).fg.ops = w :: rest := by rw [← hw, ← hfg]; rfl
      exact (step_keeps_fg_of_heldSend (s := scheduled (m k) (afterMoves m s k)) hi hb hheld hd h).trans hfg
    · rw [h]; exact hfg

/-- Settles O48: after the frame in flight FG gets its turn before anything else begins a frame, and its SEND commits. -/
theorem everyFairScheduleLetsTheHeldSendCommit : Obligations.EveryFairScheduleLetsTheHeldSendCommit := by
  intro m s c w rest hfair hbusy hun hc hb hwf ht hlive hw hd
  have hgo : Going s := ⟨hc, hwf, ht⟩
  obtain ⟨e, -, hbefore, hidle, -, -⟩ := frame_completes (n := 0) hgo hfair hun
    (fun k hk => by rw [Nat.le_zero.1 hk]; exact hb)
  have hheld : ∀ k, k ≤ e → (afterMoves m s k).fg = s.fg := fun k hk => afterMoves_keeps_heldSend hgo hw hd hbefore hk
  have hfge := hheld e (le_refl e)
  obtain ⟨k, hk, hmove, hwait⟩ := fg_gets_turn hgo hbusy hidle (by rw [hfge]; exact hlive) (by rw [hfge, hw]; simp)
  obtain ⟨hidlek, hfgk⟩ := hwait k hk (le_refl k)
  rw [hfge] at hfgk
  obtain ⟨-, hturn⟩ := afterMoves_fg_turn hgo hmove hidlek (by rw [hfgk]; exact hlive) (by rw [hfgk, hw]; simp)
  have hi : (afterMoves m s k).inited = true :=
    afterMoves_keeps (I := fun v => v.inited = true)
      (fun mv v _ hv h => (step_keeps_setup (s := scheduled mv v) hv h).1) (hc.inited_of_busy hb) k
  have hcommit : afterMoves m s (k + 1) = sendCommit c (takeMove (scheduled (m k) (afterMoves m s k))) := by
    rw [issueStep_of_mayIssue (w := w) (i := .send c) (by simpa [agentOf, takeMove, scheduled, hfgk] using hlive)
      (by simp [nextWord, agentOf, takeMove, scheduled, hfgk, hw]) hd rfl] at hturn
    rw [exec_send_of_idle (s := takeMove (scheduled (m k) (afterMoves m s k))) c hi hidlek] at hturn
    exact (Host.Outcome.next.inj hturn).symm
  refine ⟨k, hidlek, fun j hj => ?_, by rw [hcommit]; rfl, by rw [hcommit]; rfl, ?_⟩
  · rcases Nat.le_total j e with hje | hje
    · exact hheld j hje
    · rw [(hwait j hje hj).2, hfge]
  · rw [hcommit, sendCommit_eq]
    simp [takeMove, scheduled, hfgk, hw]

end Sys2Proof.Safety
end

section
/-! Runs in which nothing is faulted or refused reach their end (spec/70_reset_and_hazards.md R198, spec/60_exceptions.md R160). -/

namespace Sys2Proof.Safety

open Sys2Proof.Machine

variable {m : Nat → Move} {s t : State} {mv : Move} {n : Nat}

/-- Where no fault and no refusal is recorded after a move, it has stopped nobody (R151, R158). -/
theorem moved_keeps_stopped (h : Moved mv s t) (hfault : t.fault = []) (hrefusals : t.refusals = []) (a : Issuer) :
    (agentOf a t).stopped = (agentOf a s).stopped := by
  induction h with
  | idle e => rw [e]
  | refused b r _ _ e =>
    rw [e, refuse_refusals] at hrefusals
    exact absurd hrefusals (insertRanked_ne_nil _ _ _)
  | @ran _ v u b w i _ _ _ _ _ e =>
    cases hr : faultRaised i v with
    | some c =>
      rw [exec_of_faultRaised hr] at e
      rw [← Host.Outcome.next.inj e, raiseFault_fault] at hfault
      exact absurd hfault (insertRanked_ne_nil _ _ _)
    | none =>
      obtain ⟨u', hu', hnothing⟩ := exec_of_no_faultRaised hr
      rw [hu'] at e
      rw [← Host.Outcome.next.inj e]
      exact hnothing.2 a
  | overran u _ _ e ih =>
    rw [e] at hfault hrefusals ⊢
    rw [agentOf_overrun]
    exact ih (by simpa using hfault) (by simpa using hrefusals)
  | fellDue _ _ e => rw [e, agentOf_tickFallsDue]
  | cycled turn timed e => rw [moved_agentOf_other (.cycled turn timed e) (by rw [turn]; exact nofun)]

/-- In a run in which nothing is faulted or refused, an agent that is not stopped at the start is never stopped. -/
theorem afterMoves_live (hno : NothingStopped m s) (a : Issuer) (hlive : (agentOf a s).stopped = false) (n : Nat) :
    (agentOf a (afterMoves m s n)).stopped = false := by
  induction n with
  | zero => exact hlive
  | succ n ih =>
    rcases afterMoves_succ_cases m s n with h | h
    · obtain ⟨hfault, hrefusals⟩ := hno (n + 1)
      have hkeep := moved_keeps_stopped (step_moved h) hfault hrefusals a
      rw [agentOf_takeMove] at hkeep
      cases a <;> exact hkeep.trans ih
    · rw [h]; exact ih

theorem afterMoves_wordsLeft_le (m : Nat → Move) (s : State) (a : Issuer) (n k : Nat) :
    wordsLeft (agentOf a (afterMoves m s (n + k))) ≤ wordsLeft (agentOf a (afterMoves m s n)) := by
  induction k with
  | zero => exact le_refl _
  | succ k ih =>
    refine le_trans ?_ ih
    rcases afterMoves_succ_cases m s (n + k) with h | h
    · have hle := step_wordsLeft_le h a
      cases a <;> exact hle
    · rw [← Nat.add_assoc, h]

/-! A schedule that is fair from the start is fair from every later point -/

/-- A property of the moves and states from some point of the schedule on, as one of the run from that point. -/
theorem eventually_shift {p : State → Bool} {q : Move → Prop}
    (h : ∀ i, (∀ k, i ≤ k → p (afterMoves m s k) = true) → ∃ k, i ≤ k ∧ q (m k)) (n i : Nat)
    (hp : ∀ k, i ≤ k → p (afterMoves (fun j => m (n + j)) (afterMoves m s n) k) = true) : ∃ k, i ≤ k ∧ q (m (n + k)) := by
  obtain ⟨k, hk, hq⟩ := h (n + i) fun k hk => by
    have hpk := hp (k - n) (by omega)
    rwa [afterMoves_add, Nat.add_sub_of_le (by omega)] at hpk
  exact ⟨k - n, by omega, by rwa [Nat.add_sub_of_le (by omega)]⟩

theorem TickSourceFair.shift (h : TickSourceFair m s) (n : Nat) :
    TickSourceFair (fun j => m (n + j)) (afterMoves m s n) where
  due := eventually_shift (q := (· = .due)) h.due n
  cycle := eventually_shift (q := (· = .cycle)) h.cycle n
  deliver := eventually_shift (q := fun mv => turnOf mv = some .ts) h.deliver n

theorem UnmaskedInTheEnd.shift (h : UnmaskedInTheEnd m s) (n : Nat) :
    UnmaskedDuringFrame (fun j => m (n + j)) (afterMoves m s n) := by
  obtain ⟨n₀, hgie⟩ := h
  exact ⟨n₀, fun k hk _ => by rw [afterMoves_add]; exact hgie (n + k) (by omega)⟩

/-- From every point on there comes a time without a frame in flight. -/
theorem exists_idle (hgo : Going s) (hfair : TickSourceFair m s) (hun : UnmaskedInTheEnd m s) (n : Nat) :
    ∃ e, (afterMoves m s (n + e)).busy = false := by
  cases hb : (afterMoves m s n).busy with
  | false => exact ⟨0, hb⟩
  | true =>
    obtain ⟨e, -, -, hidle, -⟩ := frame_completes (n := 0) (hgo.afterMoves m n) (hfair.shift n) (hun.shift n)
      (fun k hk => by rw [Nat.le_zero.1 hk]; exact hb)
    exact ⟨e, by rwa [afterMoves_add] at hidle⟩

/-- Each time the transmitter is idle, the run is over or FG goes on to issue one of its words. -/
theorem reaches_final (hgo : Going s) (hfair : TickSourceFair m s) (hbusy : NeverIdles m s) (hun : UnmaskedInTheEnd m s)
    (hno : NothingStopped m s) (hlive : s.fg.stopped = false) (n : Nat) : ∃ k, Final (afterMoves m s k) := by
  induction hwords : wordsLeft (afterMoves m s n).fg using Nat.strong_induction_on generalizing n with
  | _ words ih =>
    obtain ⟨e, hidle⟩ := exists_idle hgo hfair hun n
    have hle : wordsLeft (afterMoves m s (n + e)).fg ≤ wordsLeft (afterMoves m s n).fg :=
      afterMoves_wordsLeft_le m s .fg n e
    by_cases hops : (afterMoves m s (n + e)).fg.ops = []
    · obtain ⟨hfault, hrefusals⟩ := hno (n + e)
      refine ⟨n + e, hops, hidle, hfault, ?_⟩
      rw [← Bool.not_eq_true, refusalMark_iff]
      simp [hrefusals, (hgo.afterMoves m (n + e)).wellFormed]
    · have hlive' : ∀ k, (afterMoves m s k).fg.stopped = false := afterMoves_live hno .fg hlive
      obtain ⟨k, hk, hmove, hwait⟩ := fg_gets_turn hgo hbusy hidle (hlive' _) hops
      obtain ⟨hidlek, hfgk⟩ := hwait k hk (le_refl k)
      have hopsk : (afterMoves m s k).fg.ops ≠ [] := by rw [hfgk]; exact hops
      obtain ⟨hstep, -⟩ := afterMoves_fg_turn hgo hmove hidlek (hlive' k) hopsk
      have hlt : wordsLeft (afterMoves m s (k + 1)).fg < wordsLeft (afterMoves m s k).fg :=
        step_wordsLeft_lt (s := scheduled (m k) (afterMoves m s k)) (a := .fg) hstep (by decide) hmove
          (issueEnabled_fg_of_idle hidlek (hlive' k) hopsk)
      rw [hfgk] at hlt
      exact ih _ (by omega) (k + 1) rfl

/-- Settles O49: every word that FG issues brings the end nearer, and frames in flight complete between them. -/
theorem everyFairScheduleReachesTheEnd : Obligations.EveryFairScheduleReachesTheEnd :=
  fun _ _ hfair hbusy hun hno hc hwf ht hlive => reaches_final ⟨hc, hwf, ht⟩ hfair hbusy hun hno hlive 0

end Sys2Proof.Safety
end

section
/-! The frame of every operation (spec/10_state.md R20), and what of it a step keeps for the rest of a run. -/

namespace Sys2Proof.Safety

open Sys2Proof.Machine

variable {s t : State} {a : Issuer} {i : Instr} {mv : Move}

/-- A fault of FG, written out (R151). -/
theorem raiseFault_fg (c : FaultCode) (s : State) :
    raiseFault .fg c s = { s with fault := insertRanked FaultCode.code c s.fault, fg := { s.fg with stopped := true } } :=
  rfl

/-- A fault of TS, written out (R151). -/
theorem raiseFault_ts (c : FaultCode) (s : State) :
    raiseFault .ts c s = { s with fault := insertRanked FaultCode.code c s.fault, ts := { s.ts with stopped := true } } :=
  rfl

/-- Settles O28: every branch of a meaning, written out as a record update, names the elements that it writes. -/
theorem operationsWriteOnlyTheirElements : Obligations.OperationsWriteOnlyTheirElements := by
  intro i s t h
  cases i with
  | init =>
    rcases execInit_cases h with ⟨-, rfl⟩ | ⟨-, -, rfl⟩ | ⟨-, -, rfl⟩
    · rw [raiseFault_fg]; simp [issuerOf, SameSchedule]
    · rw [raiseFault_fg]; simp [issuerOf, SameSchedule]
    · rw [initTransmitter_eq]; simp [issuerOf, SameSchedule]
  | send b =>
    rcases execSend_cases h with ⟨-, rfl⟩ | ⟨-, -, rfl⟩ | ⟨-, -, rfl⟩
    · rw [raiseFault_fg]; simp [issuerOf, SameSchedule]
    · simp [SameSchedule]
    · rw [sendCommit_eq]; simp [issuerOf, SameSchedule]
  | tick =>
    rcases execTick_cases h with ⟨-, rfl⟩ | ⟨-, rfl⟩
    · rcases Nat.lt_trichotomy s.pos.toNat 10 with hpos | hpos | hpos
      · rw [deliverTick_of_pos_lt hpos]; simp [SameSchedule, hpos.le, Nat.le_of_lt_succ hpos]
      · have hten : s.pos = 10#4 := BitVec.eq_of_toNat_eq hpos
        rw [deliverTick_of_pos_ten hten]; simp [SameSchedule, hten]
      · rw [deliverTick_of_pos_out_of_range hpos, raiseFault_ts]; simp [SameSchedule]
    · simp [SameSchedule]
  | tsStart => cases h; simp [tsStart, SameSchedule]
  | tsStop => cases h; simp [tsStop, SameSchedule]
  | ei => cases h; simp [advance, setAgent, agentOf, SameSchedule]
  | di => cases h; simp [advance, setAgent, agentOf, SameSchedule]

theorem exec_sameSchedule (h : exec i s = .next t) : SameSchedule s t := by
  obtain ⟨-, -, -, -, -, -, -, -, -, -, -, -, -, -, -, -, -, -, hsched, -, -⟩ := operationsWriteOnlyTheirElements i s t h
  exact hsched

theorem exec_gie_of_ne_di (h : exec i s = .next t) (hi : i ≠ .di) (hgie : s.gie = true) : t.gie = true := by
  obtain ⟨-, -, -, -, -, -, -, -, hwrites, -⟩ := operationsWriteOnlyTheirElements i s t h
  by_cases hsame : t.gie = s.gie
  · exact hsame.trans hgie
  · rcases hwrites hsame with rfl | rfl
    · cases h; rfl
    · exact absurd rfl hi

theorem moved_sched (h : Moved mv s t) : t.sched = s.sched := by
  induction h with
  | idle e => rw [e]
  | refused _ _ _ _ e => rw [e, refuse_sched]
  | ran _ _ _ _ _ _ _ _ e => exact (exec_sameSchedule e).1
  | overran _ _ _ e ih => rw [e, overrun_sched]; exact ih
  | fellDue _ _ e => rw [e, tickFallsDue_sched]
  | cycled _ _ e =>
    obtain ⟨_, _, f, -⟩ := clockCycle_fields _
    rw [e, f]

/-- A step takes one move off the schedule and adds none. -/
theorem step_sched {rest : List Move} (hs : s.sched = mv :: rest) (h : step s = .next t) : t.sched = rest := by
  rw [moved_sched (step_moved h), (scheduledMove_cons hs).2]

/-! `GIE = 1` stays where HOST has no DI left -/

theorem step_words_subset (h : step s = .next t) (a : Issuer) : (agentOf a t).ops ⊆ (agentOf a s).ops := by
  by_cases hturn : turnOf (scheduledMove s) = some a
  · rcases step_turnTaken h hturn with ⟨-, e⟩ | e | e
    · rw [e]; exact List.Subset.refl _
    · rw [e]; exact List.Subset.refl _
    · rw [e]; exact List.tail_subset _
  · rw [step_agentOf_other h hturn]; exact List.Subset.refl _

theorem moved_gie (h : Moved mv s t) (hno : NoDiToCome s) (hgie : s.gie = true) : t.gie = true := by
  induction h with
  | idle e => rw [e]; exact hgie
  | refused _ _ _ _ e => rw [e, refuse_gie]; exact hgie
  | @ran _ v u a w i _ _ word decoded issuer e =>
    refine exec_gie_of_ne_di e (fun hdi => ?_) hgie
    subst hdi
    cases issuer
    rcases nextWord_eq_some_iff.1 word with hhead | ⟨hts, -⟩
    · exact hno w (List.mem_of_head? hhead) decoded
    · cases hts
  | overran _ _ _ e ih => rw [e, overrun_gie]; exact ih hno hgie
  | fellDue _ _ e => rw [e, tickFallsDue_gie]; exact hgie
  | cycled _ _ e =>
    obtain ⟨_, _, f, -⟩ := clockCycle_fields _
    rw [e, f]; exact hgie

/-- Interrupts are enabled, and HOST will not mask them. -/
structure StaysUnmasked (s : State) : Prop where
  gie : s.gie = true
  noDi : NoDiToCome s

theorem StaysUnmasked.step (hu : StaysUnmasked s) (h : step s = .next t) : StaysUnmasked t := by
  have hhost : (takeMove s).host = s.host := agentOf_takeMove .host s
  refine ⟨moved_gie (step_moved h) (fun w hw => hu.noDi w (by rwa [hhost] at hw)) (by simpa using hu.gie), fun w hw => ?_⟩
  exact hu.noDi w (step_words_subset h .host hw)

end Sys2Proof.Safety
end

section
/-! A frame completes on every schedule that has its ticks, at the untimed level (spec/41_bit_framer.md R128). -/

namespace Sys2Proof.Safety

open Sys2Proof.Machine

variable {s t v w : State} {b : Byte}

/-- The moves that the rest of the frame needs at the untimed level: each tick falls due and is delivered. -/
def neededMoves (v : State) : List Move :=
  if v.tsDue then .issue .ts :: tickMoves (10 - v.pos.toNat) else tickMoves (11 - v.pos.toNat)

theorem neededMoves_of_due (h : v.tsDue = true) : neededMoves v = .issue .ts :: tickMoves (10 - v.pos.toNat) := by
  simp [neededMoves, h]

theorem neededMoves_of_waiting (h : v.tsDue = false) (hpos : v.pos.toNat ≤ 10) :
    neededMoves v = .due :: .issue .ts :: tickMoves (10 - v.pos.toNat) := by
  rw [neededMoves, h, if_neg (by simp), show 11 - v.pos.toNat = (10 - v.pos.toNat) + 1 by omega]
  rfl

/-- With a tick due already, the frame needs no more than without. -/
theorem neededMoves_sublist (v : State) (hpos : v.pos.toNat ≤ 10) : (neededMoves v).Sublist (tickMoves (11 - v.pos.toNat)) := by
  cases hd : v.tsDue with
  | true =>
    rw [neededMoves_of_due hd, show 11 - v.pos.toNat = (10 - v.pos.toNat) + 1 by omega]
    exact List.sublist_cons_self _ _
  | false => rw [neededMoves, hd, if_neg (by simp)]

/-- A frame in flight at the untimed level for which the schedule has the moves that it needs. -/
structure Supplied (v : State) : Prop where
  going : Going v
  busy : v.busy = true
  level : v.cfg.level = .untimed
  unmasked : StaysUnmasked v
  moves : (neededMoves v).Sublist v.sched

theorem Supplied.deliveryEnabled (h : Supplied v) (hd : v.tsDue = true) : deliveryEnabled v = true :=
  deliveryEnabled_iff.2 ⟨hd, (running_fields (h.going.coherent.running h.busy)).1, h.unmasked.gie⟩

theorem Supplied.dueEnabled (h : Supplied v) (hd : v.tsDue = false) : dueEnabled v = true := by
  simp [Machine.dueEnabled, h.level, h.going.ticks.live, h.going.coherent.clockSelected_iff_busy, h.busy, hd]

/-- Either the tick can fall due or it can be delivered, so the run does not stop. -/
theorem Supplied.exists_step (h : Supplied v) : ∃ w, step v = .next w := by
  refine (exists_step_iff h.going.wellFormed).2 (someStepEnabled_iff.1 ?_)
  cases hd : v.tsDue with
  | true => exact someStepEnabled_of_issueEnabled (issueEnabled_ts h.going.ticks (h.deliveryEnabled hd))
  | false => exact someStepEnabled_iff.2 (.inr (tickSourceCanStep_iff.2 (.inl (h.dueEnabled hd))))

/-- One move of the schedule: what the frame needs afterwards is still to come. -/
theorem Supplied.neededMoves_step (h : Supplied v) {mv : Move} {rest : List Move} (hs : v.sched = mv :: rest)
    (hstep : step v = .next w) (hb : w.busy = true) : (neededMoves w).Sublist rest := by
  have hmoves := h.moves
  have hc := h.going.coherent
  have hmv := (scheduledMove_cons hs).1
  rw [hs] at hmoves
  cases step_frameMove hc h.busy hstep with
  | ticked enabled _ result =>
    have hlt : v.pos.toNat < 10 := hc.pos_lt_or_eq_ten.resolve_right fun h10 => by
      rw [(result.last h10).1] at hb; cases hb
    have hpos := (result.next hlt).2.1
    rw [neededMoves_of_due (deliveryEnabled_iff.1 enabled).1] at hmoves
    have hneeded := neededMoves_sublist w (by omega)
    rw [hpos, show 11 - (v.pos.toNat + 1) = 10 - v.pos.toNat by omega] at hneeded
    exact hneeded.trans (List.Sublist.of_cons_cons hmoves)
  | kept same waits =>
    cases hd : v.tsDue with
    | true =>
      have hdw : w.tsDue = true := by
        by_contra hno
        rw [(waits (by simpa using hno)).1] at hd
        cases hd
      have hne : mv ≠ .issue .ts := fun e => by
        obtain ⟨w', hw', hticked⟩ := step_ts_turn h.going (h.deliveryEnabled hd) (by rw [hmv, e]; rfl)
        rw [hstep] at hw'
        cases hw'
        have htrace := hticked.trace
        simp [same.trace] at htrace
      rw [neededMoves_of_due hd] at hmoves
      rw [neededMoves_of_due hdw, same.pos]
      exact List.Sublist.of_cons_of_ne (Ne.symm hne) hmoves
    | false =>
      rw [neededMoves_of_waiting hd hc.pos_le_ten] at hmoves
      cases hdw : w.tsDue with
      | true =>
        rw [neededMoves_of_due hdw, same.pos]
        exact List.Sublist.of_cons_cons hmoves
      | false =>
        have hne : mv ≠ .due := fun e => by
          rw [step_due h.going.wellFormed (h.dueEnabled hd) (by rw [hmv, e])] at hstep
          cases hstep
          cases hdw
        rw [neededMoves_of_waiting hdw (by rw [same.pos]; exact hc.pos_le_ten), same.pos]
        exact List.Sublist.of_cons_of_ne (Ne.symm hne) hmoves

theorem Supplied.step (h : Supplied v) {mv : Move} {rest : List Move} (hs : v.sched = mv :: rest)
    (hstep : step v = .next w) (hb : w.busy = true) : Supplied w :=
  ⟨h.going.step hstep, hb, by rw [step_cfg hstep]; exact h.level, h.unmasked.step hstep,
    by rw [step_sched hs hstep]; exact h.neededMoves_step hs hstep hb⟩

/-- The state in which the frame of `b` has just ended, with the symbols that were to come appended to those of `v`. -/
structure FrameEnded (v t : State) : Prop where
  symbols : obsOf t = obsOf v ++ (frameObs v.pending).drop v.pos.toNat
  busy : t.busy = false
  pos : t.pos = 0#4
  tsCtrl : t.tsCtrl = 0b00#2
  line : t.line = true
  pending : t.pending = v.pending

theorem FrameEnded.of_last (hr : Ticked v t) (hpos : v.pos = 10#4) : FrameEnded v t := by
  obtain ⟨hbusy, hzero, hctrl, hline⟩ := hr.last hpos
  exact ⟨by rw [hr.obsOf, hpos]; rfl, hbusy, hzero, hctrl, hline, hr.pending⟩

theorem FrameEnded.of_next (hr : Ticked v w) (hlt : v.pos.toNat < 10) (h : FrameEnded w t) : FrameEnded v t := by
  refine ⟨?_, h.busy, h.pos, h.tsCtrl, h.line, h.pending.trans hr.pending⟩
  rw [h.symbols, hr.obsOf, hr.pending, (hr.next hlt).2.1, frameObs_drop_eq_cons _ hlt.le, List.append_assoc]
  rfl

theorem FrameEnded.of_same (hr : SameFrame v w) (h : FrameEnded w t) : FrameEnded v t := by
  refine ⟨?_, h.busy, h.pos, h.tsCtrl, h.line, h.pending.trans hr.pending⟩
  rw [h.symbols, hr.pending, hr.pos, obsOf, obsOf, hr.trace]

theorem neededMoves_ne_nil (hpos : v.pos.toNat ≤ 10) : neededMoves v ≠ [] := by
  cases hd : v.tsDue with
  | true => rw [neededMoves_of_due hd]; simp
  | false => rw [neededMoves_of_waiting hd hpos]; simp

/-- The run along the schedule reaches the end of the frame. -/
theorem Supplied.completes (h : Supplied v) :
    ∃ n t, n ≤ v.sched.length ∧ Sys2Proof.core.run n v = .next t ∧ FrameEnded v t := by
  induction hs : v.sched generalizing v with
  | nil =>
    have hmoves := h.moves
    rw [hs] at hmoves
    exact absurd (List.sublist_nil.1 hmoves) (neededMoves_ne_nil h.going.coherent.pos_le_ten)
  | cons mv rest ih =>
    obtain ⟨w, hstep⟩ := h.exists_step
    have hgoes (hb : w.busy = true) (hback : ∀ t, FrameEnded w t → FrameEnded v t) :
        ∃ n t, n ≤ (mv :: rest).length ∧ Sys2Proof.core.run n v = .next t ∧ FrameEnded v t := by
      obtain ⟨n, t, hn, hrun, hend⟩ := ih (h.step hs hstep hb) (step_sched hs hstep)
      exact ⟨n + 1, t, Nat.succ_le_succ hn, (coreRun_of_step hstep).trans hrun, hback t hend⟩
    cases step_frameMove h.going.coherent h.busy hstep with
    | kept same => exact hgoes (same.busy.trans h.busy) fun t => .of_same same
    | ticked _ _ result =>
      rcases h.going.coherent.pos_lt_or_eq_ten with hlt | hten
      · exact hgoes (result.next hlt).1 fun t => .of_next result hlt
      · exact ⟨1, w, Nat.succ_le_succ (Nat.zero_le _), coreRun_of_step hstep, .of_last result hten⟩

/-- Settles O46: after each move of the schedule the ticks that the frame still needs are still to come. -/
theorem frameCompletesInElevenTicks : Obligations.FrameCompletesInElevenTicks := by
  rintro b s ⟨hc, -, hb, hpos, rfl⟩ hwf hlevel hgie hno ht hmoves
  have hneeded : (neededMoves s).Sublist (tickMoves 11) := by
    have hsub := neededMoves_sublist s (by simp [hpos])
    rwa [hpos] at hsub
  obtain ⟨n, t, hn, hrun, hend⟩ := Supplied.completes ⟨⟨hc, hwf, ht⟩, hb, hlevel, ⟨hgie, hno⟩, hneeded.trans hmoves⟩
  refine ⟨n, t, hn, hrun, ?_, hend.busy, hend.pos, hend.tsCtrl, hend.line, hend.pending⟩
  rw [hend.symbols, hpos]
  rfl

end Sys2Proof.Safety
end

section
/-! A frame whose ticks are delivered as they fall due, at the timed level (spec/70_reset_and_hazards.md R195, R198). -/

namespace Sys2Proof.Safety

open Sys2Proof.Machine

variable {s t v w : State} {b : Byte} {first P : Nat} {later : List Move}

/-- The moves of the tick source that the rest of the frame takes where every tick is delivered at once. -/
def promptMoves (v : State) : List Move :=
  List.replicate (firstTickDelay v) .cycle ++ .issue .ts :: periodMoves v.tsPeriod (10 - v.pos.toNat)

/-- A frame in flight at the timed level, on time, whose ticks are delivered as they fall due on the schedule. -/
structure Prompt (first : Nat) (later : List Move) (v : State) : Prop where
  going : Going v
  busy : v.busy = true
  timed : v.cfg.level = .timed
  unmasked : StaysUnmasked v
  onTime : OnTime first v
  atOnce : v.tsDue = true → v.tsCount = 0
  moves : v.sched.filter isClockMove = promptMoves v ++ later

theorem firstTickDelay_of_due (h : v.tsDue = true) : firstTickDelay v = 0 := by simp [firstTickDelay, h]

theorem firstTickDelay_of_waiting (h : v.tsDue = false) (hcount : v.tsCount < v.tsPeriod) :
    firstTickDelay v = v.tsPeriod - v.tsCount := by
  simp only [firstTickDelay, h, Bool.false_eq_true, if_false]
  omega

/-- With a tick due, the next move of the tick source delivers it. -/
theorem promptMoves_of_due (h : v.tsDue = true) :
    promptMoves v = .issue .ts :: periodMoves v.tsPeriod (10 - v.pos.toNat) := by
  rw [promptMoves, firstTickDelay_of_due h]
  rfl

/-- With none due, the next move of the tick source is a cycle. -/
theorem promptMoves_of_waiting (h : v.tsDue = false) (hcount : v.tsCount < v.tsPeriod) :
    promptMoves v = .cycle :: (List.replicate (v.tsPeriod - (v.tsCount + 1)) .cycle ++
      .issue .ts :: periodMoves v.tsPeriod (10 - v.pos.toNat)) := by
  rw [promptMoves, firstTickDelay_of_waiting h hcount,
    show v.tsPeriod - v.tsCount = (v.tsPeriod - (v.tsCount + 1)) + 1 by omega]
  rfl

theorem Prompt.exists_step (h : Prompt first later v) : ∃ w, step v = .next w := by
  refine (exists_step_iff h.going.wellFormed).2 (.inr (tickSourceCanStep_iff.2 (.inr ?_)))
  exact counting_of_busy h.going.coherent h.busy h.timed h.going.ticks.live

theorem Prompt.deliveryEnabled (h : Prompt first later v) (hd : v.tsDue = true) : deliveryEnabled v = true :=
  deliveryEnabled_iff.2 ⟨hd, (running_fields (h.going.coherent.running h.busy)).1, h.unmasked.gie⟩

/-- What a move that is none of the tick source's leaves of a timed frame. -/
structure SameTimer (s t : State) : Prop where
  tsDue : t.tsDue = s.tsDue
  tsCount : t.tsCount = s.tsCount

theorem step_of_other_move (hc : Coherent s) (hb : s.busy = true) (hlevel : s.cfg.level = .timed)
    (hm : isClockMove (scheduledMove s) = false) (h : step s = .next t) : SameFrame s t ∧ SameTimer s t := by
  cases step_effect h with
  | same h => exact ⟨h.sameFrame, h.tsDue, h.tsCount⟩
  | init fresh => rw [hc.inited_of_busy hb] at fresh; cases fresh
  | commit _ _ idle => rw [hb] at idle; cases idle
  | tick _ turn => rcases turnOf_eq_ts turn with e | e <;> rw [e] at hm <;> cases hm
  | tickKept _ turn => rw [turn] at hm; cases hm
  | gie _ _ _ e => rw [e]; exact ⟨by constructor <;> simp, by simp, by simp⟩
  | due enabled => rw [level_of_dueEnabled enabled] at hlevel; cases hlevel
  | cycle _ turn => rw [turn] at hm; cases hm

theorem promptMoves_congr (hf : SameFrame v w) (ht : SameTimer v w) : promptMoves w = promptMoves v := by
  simp only [promptMoves, firstTickDelay, hf.tsPeriod, hf.pos, ht.tsDue, ht.tsCount]

/-- The frame of `v` has ended at the time of its last tick, its remaining entries being those of the timed frame. -/
structure TimedFrameEnded (first : Nat) (v t : State) : Prop where
  entries : t.trace = v.trace ++ (timedFrame v.pending first v.tsPeriod).drop v.pos.toNat
  busy : t.busy = false
  now : t.now = first + 10 * v.tsPeriod

theorem TimedFrameEnded.of_same (hr : SameFrame v w) (h : TimedFrameEnded first w t) : TimedFrameEnded first v t :=
  ⟨by rw [h.entries, hr.trace, hr.pending, hr.tsPeriod, hr.pos], h.busy, by rw [h.now, hr.tsPeriod]⟩

theorem timedFrame_drop_eq_cons (b : Byte) (start p : Nat) {k : Nat} (hk : k ≤ 10) :
    (timedFrame b start p).drop k =
      { obs := symbolAt b k, time := start + k * p } :: (timedFrame b start p).drop (k + 1) := by
  have hget : (timedFrame b start p)[k]? = some { obs := symbolAt b k, time := start + k * p } := by
    simp [timedFrame, List.getElem?_zipIdx, frameObs_getElem? b hk]
  obtain ⟨hlt, hget⟩ := List.getElem?_eq_some_iff.1 hget
  rw [List.drop_eq_getElem_cons hlt, hget]

/-- The entry of the TICK that is delivered is the one of the timed frame at its position. -/
theorem Prompt.ticked_entry (h : Prompt first later v) (hd : v.tsDue = true) (hr : Ticked v w) :
    w.trace = v.trace ++ [{ obs := symbolAt v.pending v.pos.toNat, time := first + v.pos.toNat * v.tsPeriod }] := by
  rw [hr.trace, (onTime_iff_phase.1 h.onTime).tickTime h.timed (h.deliveryEnabled hd)]

theorem TimedFrameEnded.of_next (h : Prompt first later v) (hd : v.tsDue = true) (hr : Ticked v w)
    (hlt : v.pos.toNat < 10) (he : TimedFrameEnded first w t) : TimedFrameEnded first v t := by
  refine ⟨?_, he.busy, by rw [he.now, hr.tsPeriod]⟩
  rw [he.entries, h.ticked_entry hd hr, hr.pending, hr.tsPeriod, (hr.next hlt).2.1, timedFrame_drop_eq_cons _ _ _ hlt.le,
    List.append_assoc]
  rfl

theorem TimedFrameEnded.of_last (h : Prompt first later v) (hd : v.tsDue = true) (hr : Ticked v w) (hten : v.pos = 10#4)
    (hnow : w.now = v.now) : TimedFrameEnded first v w := by
  have hpos : v.pos.toNat = 10 := by rw [hten]; rfl
  refine ⟨?_, (hr.last hten).1, ?_⟩
  · rw [h.ticked_entry hd hr, hpos, timedFrame_drop_eq_cons _ _ _ (le_refl 10)]
    rfl
  · rw [hnow, h.onTime.due hd, hpos, h.atOnce hd, Nat.add_zero]

/-- What every step of the frame keeps, whatever its move. -/
theorem Prompt.step (h : Prompt first later v) (hstep : step v = .next w) (hb : w.busy = true)
    (hfits : HandlerFits v) (hatOnce : w.tsDue = true → w.tsCount = 0)
    (hmoves : w.sched.filter isClockMove = promptMoves w ++ later) : Prompt first later w :=
  ⟨h.going.step hstep, hb, by rw [step_cfg hstep]; exact h.timed, h.unmasked.step hstep,
    step_keeps_onTime h.going.coherent h.busy h.timed h.going.ticks.live hfits h.onTime hstep hb,
    hatOnce, hmoves⟩

/-- A move that is none of the tick source's leaves the frame and its timer. -/
theorem Prompt.step_other (h : Prompt first later v) {mv : Move} {rest : List Move} (hs : v.sched = mv :: rest)
    (hmv : isClockMove mv = false) (hstep : Machine.step v = .next w) : SameFrame v w ∧ Prompt first later w := by
  have hm := (scheduledMove_cons hs).1
  obtain ⟨hf, ht⟩ := step_of_other_move h.going.coherent h.busy h.timed (by rw [hm]; exact hmv) hstep
  refine ⟨hf, h.step hstep (hf.busy.trans h.busy) (fun hcycle => ?_) (by rw [ht.tsDue, ht.tsCount]; exact h.atOnce) ?_⟩
  · rw [hm] at hcycle; rw [hcycle] at hmv; cases hmv
  · have hmoves := h.moves
    rw [hs, List.filter_cons, hmv, if_neg (by simp)] at hmoves
    rw [step_sched hs hstep, hmoves, promptMoves_congr hf ht]

/-- A cycle, where no tick is due: the counter comes one nearer to the period, and at its end the tick falls due. -/
theorem Prompt.step_waiting (h : Prompt first later v) {mv : Move} {rest : List Move} (hs : v.sched = mv :: rest)
    (hmv : isClockMove mv = true) (hd : v.tsDue = false) (hstep : Machine.step v = .next w) :
    SameFrame v w ∧ Prompt first later w := by
  have hmoves := h.moves
  rw [hs, List.filter_cons, hmv, if_pos rfl, promptMoves_of_waiting hd h.onTime.count, List.cons_append] at hmoves
  obtain ⟨rfl, hrest⟩ := List.cons.inj hmoves
  have hm := (scheduledMove_cons hs).1
  have hcount : counting v = true := counting_of_busy h.going.coherent h.busy h.timed h.going.ticks.live
  have hnext : Machine.step v = .next (clockCycle (takeMove v)) := step_cycle h.going.wellFormed hcount hm
  rw [hnext] at hstep
  have hfits : HandlerFits v := fun _ hdue => by rw [hd] at hdue; cases hdue
  have hlt := h.onTime.count
  rcases clockCycle_of_counting (s := takeMove v) (by rw [counting_takeMove]; exact hcount) with ⟨hend, e⟩ | ⟨hmore, e⟩ <;>
    rw [e] at hstep hnext <;> cases hstep
  · simp only [takeMove_tsPeriod, takeMove_tsCount] at hend
    refine ⟨by constructor <;> simp, h.step hnext (by simpa using h.busy) hfits (fun _ => rfl) ?_⟩
    rw [promptMoves_of_due rfl, step_sched hs hnext, hrest, show v.tsPeriod - (v.tsCount + 1) = 0 by omega]
    simp
  · simp only [takeMove_tsPeriod, takeMove_tsCount] at hmore
    refine ⟨by constructor <;> simp, h.step hnext (by simpa using h.busy) hfits (fun hdue => ?_) ?_⟩
    · rw [← takeMove_tsDue v] at hd; rw [show _ = true from hdue] at hd; cases hd
    · rw [step_sched hs hnext, hrest, promptMoves, firstTickDelay_of_waiting (by simpa using hd) (by simpa using hmore)]
      simp

/-- The delivery of the tick that has just fallen due: the frame ends, or its next tick is one period away. -/
theorem Prompt.step_due (h : Prompt first later v) {mv : Move} {rest : List Move} (hs : v.sched = mv :: rest)
    (hmv : isClockMove mv = true) (hd : v.tsDue = true) (hstep : Machine.step v = .next w) :
    Ticked v w ∧ w.now = v.now ∧ (v.pos.toNat < 10 → Prompt first later w) := by
  have hmoves := h.moves
  rw [hs, List.filter_cons, hmv, if_pos rfl, promptMoves_of_due hd, List.cons_append] at hmoves
  obtain ⟨rfl, hrest⟩ := List.cons.inj hmoves
  have hm := (scheduledMove_cons hs).1
  have hdeliver := h.deliveryEnabled hd
  have hnext : Machine.step v = .next (deliverTick (takeMove v)) := step_issue_ts h.going.wellFormed h.going.ticks hdeliver hm
  obtain ⟨w', hw', hticked⟩ := step_ts_turn h.going hdeliver (by rw [hm]; rfl)
  rw [hstep] at hw'
  cases hw'
  rw [hnext] at hstep
  cases hstep
  have hset := sameSetting_deliverTick (takeMove v)
  refine ⟨hticked, hset.now.trans (takeMove_now v), fun hlt => ?_⟩
  have hclear : (deliverTick (takeMove v)).tsDue = false := by
    rw [deliverTick_of_pos_lt (by simpa using hlt)]
  have hzero : (deliverTick (takeMove v)).tsCount = 0 := by rw [hset.tsCount, takeMove_tsCount]; exact h.atOnce hd
  have hlt' : (deliverTick (takeMove v)).tsCount < (deliverTick (takeMove v)).tsPeriod := by
    rw [hset.tsCount, hset.tsPeriod, takeMove_tsCount, takeMove_tsPeriod]; exact h.onTime.count
  refine h.step hnext (hticked.next hlt).1 (fun hcycle => by rw [hm] at hcycle; cases hcycle) (fun _ => hzero) ?_
  rw [step_sched hs hnext, hrest, promptMoves, firstTickDelay_of_waiting hclear hlt', hzero, hticked.tsPeriod,
    (hticked.next hlt).2.1, show 10 - v.pos.toNat = (10 - (v.pos.toNat + 1)) + 1 by omega]
  rfl

/-- The run along the schedule reaches the end of the frame, with every entry at its time. -/
theorem Prompt.completes (h : Prompt first later v) :
    ∃ n t, n ≤ v.sched.length ∧ Sys2Proof.core.run n v = .next t ∧ TimedFrameEnded first v t := by
  induction hs : v.sched generalizing v with
  | nil =>
    have hmoves := h.moves
    rw [hs, promptMoves] at hmoves
    simp at hmoves
  | cons mv rest ih =>
    obtain ⟨w, hstep⟩ := h.exists_step
    have hgoes (hw : Prompt first later w) (hback : ∀ t, TimedFrameEnded first w t → TimedFrameEnded first v t) :
        ∃ n t, n ≤ (mv :: rest).length ∧ Sys2Proof.core.run n v = .next t ∧ TimedFrameEnded first v t := by
      obtain ⟨n, t, hn, hrun, hend⟩ := ih hw (step_sched hs hstep)
      exact ⟨n + 1, t, Nat.succ_le_succ hn, (coreRun_of_step hstep).trans hrun, hback t hend⟩
    cases hmv : isClockMove mv with
    | false =>
      obtain ⟨hf, hw⟩ := h.step_other hs hmv hstep
      exact hgoes hw fun t => .of_same hf
    | true =>
      cases hd : v.tsDue with
      | false =>
        obtain ⟨hf, hw⟩ := h.step_waiting hs hmv hd hstep
        exact hgoes hw fun t => .of_same hf
      | true =>
        obtain ⟨hr, hnow, hw⟩ := h.step_due hs hmv hd hstep
        rcases h.going.coherent.pos_lt_or_eq_ten with hlt | hten
        · exact hgoes (hw hlt) fun t => .of_next h hd hr hlt
        · exact ⟨1, w, Nat.succ_le_succ (Nat.zero_le _), coreRun_of_step hstep, .of_last h hd hr hten hnow⟩

/-- Settles O53: a cycle comes nearer to the tick, which is delivered as it falls due; all other moves leave frame and timer. -/
theorem timedFrameHasOnePeriodPerSymbol : Obligations.TimedFrameHasOnePeriodPerSymbol := by
  intro b s u later hr hwf hgie hno hu hmoves
  rw [exec_send_of_ready hr] at hu
  cases hu
  have hpos : s.pos = 0#4 := hr.coherent.idlePos hr.idle
  have hprompt : Prompt (s.now + firstTickDelay s) later (sendCommit b s) :=
    { going := ⟨coherent_sendCommit b hr.coherent hr.inited hr.idle, hwf, ticksOnly_of_ts_eq hr.ticks rfl⟩
      busy := rfl
      timed := hr.timed
      unmasked := ⟨hgie, hno⟩
      onTime := sendCommit_onTime b hr.coherent hr.idle hr.timed hr.count
      atOnce := hr.coherent.keptDue hr.timed hr.idle
      moves := by
        have hzero : (sendCommit b s).pos.toNat = 0 := by simp [hpos]
        rw [hmoves, promptMoves, hzero]
        rfl }
  obtain ⟨n, t, hn, hrun, hend⟩ := hprompt.completes
  have hdelay : firstTickDelay s ≤ s.tsPeriod := by
    cases hd : s.tsDue with
    | true => rw [firstTickDelay_of_due hd]; exact Nat.zero_le _
    | false => rw [firstTickDelay_of_waiting hd hr.count]; exact Nat.sub_le _ _
  have hnow : t.now = s.now + firstTickDelay s + 10 * s.tsPeriod := hend.now
  refine ⟨n, t, hn, hrun, ?_, hend.busy, hnow, by omega⟩
  rw [hend.entries, sendCommit_pos, hpos]
  rfl

end Sys2Proof.Safety
end

section
/-! What `PENDING` holds between frames is never observed (spec/10_state.md R22, R181). -/

namespace Sys2Proof.Safety

open Sys2Proof.Machine

variable {s t : State} {a : Issuer} {i : Instr} {p : Byte}

/-- The answer to another byte in an idle `PENDING`: the next state with that byte, or, after a commit, the same next state. -/
def SameButPending (p : Byte) (t : State) (answer : Host.Outcome State Fault Refusal) : Prop :=
  (t.busy = false ∧ answer = .next { t with pending := p }) ∨ (t.busy = true ∧ answer = .next t)

/-- What leaves an idle transmitter idle carries the byte along. -/
theorem sameButPending_of_idle {answer : Host.Outcome State Fault Refusal} (hb : t.busy = false)
    (h : answer = .next { t with pending := p }) : SameButPending p t answer :=
  .inl ⟨hb, h⟩

theorem exec_sameButPending (hb : s.busy = false) (hd : deliveryEnabled s = false) (h : exec i s = .next t) :
    SameButPending p t (exec i { s with pending := p }) := by
  cases i with
  | init =>
    rcases execInit_cases h with ⟨hi, rfl⟩ | ⟨hi, hg, rfl⟩ | ⟨hi, hg, rfl⟩
    · exact sameButPending_of_idle (by simpa using hb) (if_pos hi)
    · exact sameButPending_of_idle (by simpa using hb) ((if_neg (by simp [hi])).trans (if_pos hg))
    · refine sameButPending_of_idle (by simpa [initTransmitter_eq] using hb)
        ((if_neg (by simp [hi])).trans ((if_neg (by simp [hg])).trans ?_))
      rw [initTransmitter_eq, initTransmitter_eq]
  | send b =>
    rcases execSend_cases h with ⟨hi, rfl⟩ | ⟨-, hbusy, -⟩ | ⟨hi, -, rfl⟩
    · exact sameButPending_of_idle (by simpa using hb) (if_pos (by simp [hi]))
    · rw [hb] at hbusy; cases hbusy
    · exact .inr ⟨rfl, exec_send_of_idle (s := { s with pending := p }) b hi hb⟩
  | tick =>
    rcases execTick_cases h with ⟨hyes, -⟩ | ⟨-, rfl⟩
    · rw [hd] at hyes; cases hyes
    · exact sameButPending_of_idle hb (if_neg (by rw [show deliveryEnabled { t with pending := p } = false from hd]; simp))
  | tsStart => cases h; exact sameButPending_of_idle hb rfl
  | tsStop => cases h; exact sameButPending_of_idle hb rfl
  | ei => cases h; exact sameButPending_of_idle hb rfl
  | di => cases h; exact sameButPending_of_idle hb rfl

theorem agentOf_withPending (a : Issuer) (s : State) (p : Byte) : agentOf a { s with pending := p } = agentOf a s := by
  cases a <;> rfl

theorem nextWord_withPending (a : Issuer) (s : State) (p : Byte) : nextWord a { s with pending := p } = nextWord a s := by
  simp [nextWord, agentOf_withPending]

theorem refuse_withPending (a : Issuer) (r : RefusalReason) (s : State) (p : Byte) :
    refuse a r { s with pending := p } = { refuse a r s with pending := p } := by
  cases a <;> rfl

theorem issueStep_sameButPending (hb : s.busy = false) (hd : deliveryEnabled s = false) (h : issueStep a s = .next t) :
    SameButPending p t (issueStep a { s with pending := p }) := by
  have hagent := agentOf_withPending a s p
  have hword := nextWord_withPending a s p
  cases hlive : (agentOf a s).stopped with
  | true =>
    rw [issueStep_of_stopped hlive] at h
    cases h
    exact sameButPending_of_idle hb (issueStep_of_stopped (by rw [hagent, hlive]))
  | false =>
    rw [← hagent] at hlive
    cases hw : nextWord a s with
    | none =>
      rw [issueStep_of_no_word hw] at h
      cases h
      exact sameButPending_of_idle hb (issueStep_of_no_word (hword.trans hw))
    | some w =>
      cases hdec : decode w with
      | error r =>
        rw [issueStep_of_undecodable (by rwa [← hagent]) hw hdec] at h
        cases h
        refine sameButPending_of_idle (by simpa using hb) ?_
        rw [issueStep_of_undecodable hlive (hword.trans hw) hdec, refuse_withPending]
      | ok i =>
        by_cases hi : MayIssue a i
        · rw [issueStep_of_mayIssue (by rwa [← hagent]) hw hdec hi] at h
          rw [issueStep_of_mayIssue hlive (hword.trans hw) hdec hi]
          exact exec_sameButPending hb hd h
        · rw [issueStep_of_wrongIssuer (by rwa [← hagent]) hw hdec hi] at h
          cases h
          refine sameButPending_of_idle (by simpa using hb) ?_
          rw [issueStep_of_wrongIssuer hlive (hword.trans hw) hdec hi, refuse_withPending]

theorem overrun_of_pos_zero (h : s.pos = 0#4) (t : State) : overrun s t = t :=
  if_neg fun ⟨h10, _⟩ => by rw [h] at h10; cases h10

/-- The same of a move: between frames none of the tick source's own moves does more than to move the clock. -/
theorem runMove_sameButPending (hc : Coherent s) (hb : s.busy = false) {mv : Move} (h : runMove mv s = .next t) :
    SameButPending p t (runMove mv { s with pending := p }) := by
  have hcs : drivingClockSelected s = false := hc.clockSelected_iff_busy.trans hb
  have hd : deliveryEnabled s = false := by
    by_contra hd
    rw [hc.busy_of_deliveryEnabled (by simpa using hd)] at hb
    cases hb
  have hpos := hc.idlePos hb
  cases mv with
  | issue a => exact issueStep_sameButPending hb hd h
  | tickOverrun =>
    obtain ⟨u, hu⟩ := issueStep_answers .ts s
    have hsame := issueStep_sameButPending (p := p) hb hd hu
    simp only [runMove, overrunStep, hu, overrun_of_pos_zero hpos] at h ⊢
    cases h
    refine hsame.imp (fun ⟨hidle, e⟩ => ⟨hidle, ?_⟩) (fun ⟨hbusy, e⟩ => ⟨hbusy, ?_⟩)
    · rw [e]
      exact congrArg _ (overrun_of_pos_zero (s := { s with pending := p }) hpos _)
    · rw [e]
      exact congrArg _ (overrun_of_pos_zero (s := { s with pending := p }) hpos _)
  | due =>
    have hno : dueEnabled s = false := by simp [dueEnabled, hcs]
    simp only [runMove, hno] at h
    cases h
    refine sameButPending_of_idle hb ?_
    simp only [runMove, show dueEnabled { s with pending := p } = false from hno]
    rfl
  | cycle =>
    have hno : counting s = false := by simp [counting, hcs]
    have hclock := clockCycle_of_not_counting hno
    have hclock' := clockCycle_of_not_counting (s := { s with pending := p }) hno
    simp only [runMove] at h ⊢
    split at h
    next hlevel =>
      cases h
      rw [if_pos hlevel, hclock', hclock]
      exact sameButPending_of_idle hb rfl
    next hlevel =>
      cases h
      rw [if_neg hlevel]
      exact sameButPending_of_idle hb rfl

theorem takeMove_withPending (s : State) (p : Byte) : takeMove { s with pending := p } = { takeMove s with pending := p } := by
  unfold takeMove
  cases s.sched <;> rfl

/-- Settles O44: which move is taken does not look at `PENDING`, and no move reads it between frames. -/
theorem idlePendingIsNeverObserved : Obligations.IdlePendingIsNeverObserved := by
  intro s t p hc hb h
  obtain ⟨hwf, he, hrun⟩ := step_next.1 h
  have hanswer : step { s with pending := p } = runMove (scheduledMove s) { takeMove s with pending := p } := by
    rw [← takeMove_withPending]
    exact step_of_someStepEnabled hwf he
  rw [hanswer]
  exact runMove_sameButPending (hc.of_sameBlock (sameBlock_takeMove s)) (by simpa using hb) hrun

end Sys2Proof.Safety
end

section
/-! The first tick after a commit, and what the end of a frame leaves of the period (spec/70_reset_and_hazards.md R195, R197). -/

namespace Sys2Proof.Safety

open Sys2Proof.Machine

variable {s t : State} {first : Nat}

theorem firstTickDelay_above_range (hd : s.tsDue = false) (h : s.tsPeriod ≤ s.tsCount) : firstTickDelay s = 1 := by
  simp only [firstTickDelay, hd, Bool.false_eq_true, if_false]
  omega

theorem firstTickDelay_bounds (hd : s.tsDue = false) (h : 1 ≤ s.tsPeriod) :
    1 ≤ firstTickDelay s ∧ firstTickDelay s ≤ s.tsPeriod := by
  simp only [firstTickDelay, hd, Bool.false_eq_true, if_false]
  omega

theorem clockCycles_succ (n : Nat) (s : State) : clockCycles (n + 1) s = clockCycle (clockCycles n s) := by
  induction n generalizing s with
  | zero => rfl
  | succ n ih => rw [clockCycles, ih, clockCycles]

/-- Before the delay is over the counter goes up with the clock. -/
theorem clockCycles_before_delay (hcount : counting s = true) (hd : s.tsDue = false) {n : Nat} (h : n < firstTickDelay s) :
    clockCycles n s = { s with now := s.now + n, tsCount := s.tsCount + n } := by
  induction n with
  | zero => rfl
  | succ n ih =>
    have hmore : s.tsCount + n + 1 < s.tsPeriod := by
      simp only [firstTickDelay, hd, Bool.false_eq_true, if_false] at h
      omega
    rw [clockCycles_succ, ih (by omega)]
    rcases clockCycle_of_counting (s := { s with now := s.now + n, tsCount := s.tsCount + n }) hcount with ⟨hend, -⟩ | ⟨-, e⟩
    · exact absurd hend (Nat.not_le.2 hmore)
    · exact e

theorem clockCycles_delay (hcount : counting s = true) (hd : s.tsDue = false) :
    clockCycles (firstTickDelay s) s = { s with now := s.now + firstTickDelay s, tsCount := 0, tsDue := true } := by
  obtain ⟨n, hn⟩ : ∃ n, firstTickDelay s = n + 1 := by
    refine ⟨firstTickDelay s - 1, ?_⟩
    simp only [firstTickDelay, hd, Bool.false_eq_true, if_false]
    omega
  have hlast : s.tsPeriod ≤ s.tsCount + n + 1 := by
    simp only [firstTickDelay, hd, Bool.false_eq_true, if_false] at hn
    omega
  rw [hn, clockCycles_succ, clockCycles_before_delay hcount hd (by omega)]
  rcases clockCycle_of_counting (s := { s with now := s.now + n, tsCount := s.tsCount + n }) hcount with ⟨-, e⟩ | ⟨hmore, -⟩
  · exact e
  · exact absurd hlast (Nat.not_le.2 hmore)

/-- Settles O50: the delay is what the counter lacks to the period, and the cycles count it down. -/
theorem firstTickDelayIsTheResidue : Obligations.FirstTickDelayIsTheResidue := by
  refine ⟨fun s => firstTickDelay_of_due, fun s => firstTickDelay_of_waiting, fun s => firstTickDelay_above_range,
    fun s => firstTickDelay_bounds, fun s hlevel hlive hcs hd => ?cycles⟩
  case cycles =>
    have hcount : counting s = true := by simp [counting, hlevel, hlive, hcs]
    exact ⟨fun n => clockCycles_before_delay hcount hd, clockCycles_delay hcount hd⟩

/-! The finalize TICK -/

theorem overrun_of_finalize (hpos : s.pos = 10#4) :
    overrun (takeMove s) (deliverTick (takeMove s)) = keepTickDue (deliverTick (takeMove s)) := by
  refine if_pos ⟨by simpa using hpos, ?_⟩
  rw [deliverTick_of_pos_ten (by simpa using hpos)]

theorem step_finalize_overrun (hwf : s.cfg.wellFormed = true) (ht : TicksOnly s) (hd : deliveryEnabled s = true)
    (hpos : s.pos = 10#4) (hm : scheduledMove s = .tickOverrun) :
    step s = .next (keepTickDue (deliverTick (takeMove s))) := by
  rw [step_tickOverrun hwf ht hd hm, overrun_of_finalize hpos]

/-- Settles O56: the overrun differs from the finalize TICK in the due tick and its count. -/
theorem finalizeMayKeepATickDue : Obligations.FinalizeMayKeepATickDue := by
  intro s hc ht hwf hd hpos hm
  have hset := sameSetting_deliverTick (takeMove s)
  have hlast := deliverTick_of_pos_ten (s := takeMove s) (by simpa using hpos)
  have hline : (takeMove s).line = true := by simpa using hc.line_of_pos_ten hpos
  refine ⟨_, _, exec_tick_of_deliveryEnabled (by rwa [deliveryEnabled_takeMove]), ?_, ?_,
    step_finalize_overrun hwf ht hd hpos hm, ?_, ?_, ?_, ?_, ?_, firstTickDelay_of_due rfl⟩
  · rw [hlast]
  · rw [hlast]
  · rw [keepTickDue, hset.cfg, hset.tsCount, takeMove_cfg, takeMove_tsCount]
  · rw [keepTickDue_busy, hlast]
  · rw [keepTickDue_pos, hlast]
  · rw [keepTickDue_tsCtrl, hlast]
  · rw [keepTickDue_line, hlast]; exact hline

/-- A finalize TICK delivered `c` cycles after it fell due leaves `P - c` cycles to the next tick. -/
theorem firstTickDelay_after_finalize (hpos : s.pos = 10#4) (hcount : s.tsCount < s.tsPeriod) :
    firstTickDelay (deliverTick (takeMove s)) = s.tsPeriod - s.tsCount := by
  rw [deliverTick_of_pos_ten (by simpa using hpos)]
  rw [firstTickDelay_of_waiting rfl (by simpa using hcount)]
  simp

/-- The two ends of a frame and what each leaves of the period (R104, R195). -/
theorem frame_end_delay (hwf : s.cfg.wellFormed = true) (ht : TicksOnly s) (hcount : s.tsCount < s.tsPeriod)
    (hd : deliveryEnabled s = true) (hpos : s.pos = 10#4) :
    (scheduledMove s = .issue .ts → ∃ t, step s = .next t ∧ t.busy = false ∧ t.tsPeriod = s.tsPeriod ∧
      firstTickDelay t = s.tsPeriod - s.tsCount ∧ 1 ≤ firstTickDelay t ∧ firstTickDelay t ≤ t.tsPeriod) ∧
    (scheduledMove s = .tickOverrun → ∃ t, step s = .next t ∧ t.busy = false ∧ firstTickDelay t = 0) := by
  have hlast := deliverTick_of_pos_ten (s := takeMove s) (by simpa using hpos)
  have hperiod : (deliverTick (takeMove s)).tsPeriod = s.tsPeriod :=
    (sameSetting_deliverTick _).tsPeriod.trans (takeMove_tsPeriod s)
  have hdelay := firstTickDelay_after_finalize hpos hcount
  refine ⟨fun hm => ⟨_, step_issue_ts hwf ht hd hm, by rw [hlast], hperiod, hdelay, by omega, by omega⟩, fun hm => ?_⟩
  exact ⟨_, step_finalize_overrun hwf ht hd hpos hm, by rw [keepTickDue_busy, hlast], firstTickDelay_of_due rfl⟩

/-- A frame of the byte 0 at the timed level whose last tick has been due for `c` cycles, with the move that delivers it. -/
def lastTickDue (cfg : Config) (c : Nat) (mv : Move) : State :=
  { State.resetWith cfg PowerOn.named with
    inited := true, busy := true, pos := 10#4, tsCtrl := 0b11#2, tsPeriod := cfg.period, line := true, lineDriven := true,
    gie := true, tsDue := true, tsCount := c, sched := [mv] }

theorem lastTickDue_coherent (cfg : Config) (c : Nat) (mv : Move) : Coherent (lastTickDue cfg c mv) := by
  constructor <;> simp [lastTickDue, State.resetWith, PowerOn.named, lineAt, frameLevels, Config.posMax]

theorem lastTickDue_ticksOnly (cfg : Config) (c : Nat) (mv : Move) : TicksOnly (lastTickDue cfg c mv) :=
  ⟨rfl, by intro w hw; cases hw⟩

theorem lastTickDue_delay {cfg : Config} (hwf : cfg.wellFormed = true) {c : Nat} (hc : c < cfg.period) (mv : Move) :
    (mv = .issue .ts → ∃ t, step (lastTickDue cfg c mv) = .next t ∧ t.busy = false ∧ firstTickDelay t = cfg.period - c) ∧
    (mv = .tickOverrun → ∃ t, step (lastTickDue cfg c mv) = .next t ∧ t.busy = false ∧ firstTickDelay t = 0) := by
  obtain ⟨hissue, hoverrun⟩ := frame_end_delay (s := lastTickDue cfg c mv) hwf (lastTickDue_ticksOnly cfg c mv) hc
    (deliveryEnabled_iff.2 ⟨rfl, (running_fields rfl).1, rfl⟩) rfl
  refine ⟨fun hm => ?_, fun hm => hoverrun hm⟩
  obtain ⟨t, hstep, hidle, -, hdelay, -⟩ := hissue hm
  exact ⟨t, hstep, hidle, hdelay⟩

theorem period_pos_of_wellFormed {cfg : Config} (h : cfg.wellFormed = true) : 1 ≤ cfg.period :=
  (of_decide_eq_true h).1

/-- Settles O57: the delay after a frame is the rest of the period or nothing, and INIT leaves the counter. -/
theorem everyFirstTickDelayOccurs : Obligations.EveryFirstTickDelayOccurs := by
  refine ⟨fun s _ ht hwf hcount hd hpos => frame_end_delay hwf ht hcount hd hpos, fun c L hwf hlevel hL => ?occurs,
    fun c u => ?init⟩
  case occurs =>
    have hperiod := period_pos_of_wellFormed hwf
    cases L with
    | zero =>
      obtain ⟨t, hstep, hidle, hdelay⟩ := (lastTickDue_delay hwf (c := 0) (by omega) .tickOverrun).2 rfl
      exact ⟨_, t, lastTickDue_coherent _ _ _, rfl, rfl, hperiod, hstep, hidle, hdelay⟩
    | succ L =>
      have hlt : c.period - (L + 1) < c.period := by omega
      obtain ⟨t, hstep, hidle, hdelay⟩ := (lastTickDue_delay hwf hlt (.issue .ts)).1 rfl
      exact ⟨_, t, lastTickDue_coherent _ _ _, rfl, rfl, hlt, hstep, hidle, by omega⟩
  case init =>
    refine ⟨initTransmitter (State.resetWith c u), rfl, ?_⟩
    have hdue : (initTransmitter (State.resetWith c u)).tsDue = false := by rw [initTransmitter_eq]; rfl
    have hperiod : (initTransmitter (State.resetWith c u)).tsPeriod = c.period := by rw [initTransmitter_eq]; rfl
    have hcount : (initTransmitter (State.resetWith c u)).tsCount = u.tsCount := by rw [initTransmitter_eq]; rfl
    split
    next hlt => rw [firstTickDelay_of_waiting hdue (by rw [hperiod, hcount]; exact hlt), hperiod, hcount]
    next hge => exact firstTickDelay_above_range hdue (by rw [hperiod, hcount]; omega)

/-- Settles O58: the next tick is the rest of the period after the finalize TICK, or the one that is kept due. -/
theorem stopBitLastsAtLeastOnePeriod : Obligations.StopBitLastsAtLeastOnePeriod := by
  intro first b s t hc hlevel ht hot hd hpos hturn h
  have hct := stepKeepsCoherence s t hc h
  have hbusy := hc.busy_of_deliveryEnabled hd
  have hwf := (step_next.1 h).1
  obtain ⟨hi, -, -⟩ := step_keeps_setup (hc.inited_of_busy hbusy) h
  have hcount := stepKeepsTheCounterInRange s t (hc.inited_of_busy hbusy) hot.count h
  have hlevelt : t.cfg.level = .timed := by rw [step_cfg h]; exact hlevel
  have hnow : s.now = first + 10 * s.tsPeriod + s.tsCount := by
    have hdue := hot.due (deliveryEnabled_iff.1 hd).1
    rwa [hpos] at hdue
  have hset := sameSetting_deliverTick (takeMove s)
  have hlt := hot.count
  obtain ⟨hidle, hnowt, hdelay⟩ : t.busy = false ∧ t.now = s.now ∧
      (firstTickDelay t = s.tsPeriod - s.tsCount ∧ scheduledMove s ≠ .tickOverrun ∨ firstTickDelay t = 0) := by
    have hend := (deliverTick_of_pos_ten (s := takeMove s) (by simpa using hpos))
    rcases turnOf_eq_ts hturn with hm | hm
    · rw [step_issue_ts hwf ht hd hm] at h
      cases h
      exact ⟨by rw [hend], hset.now.trans (takeMove_now s),
        .inl ⟨firstTickDelay_after_finalize hpos hlt, by rw [hm]; exact nofun⟩⟩
    · rw [step_finalize_overrun hwf ht hd hpos hm] at h
      cases h
      exact ⟨by rw [keepTickDue_busy, hend], hset.now.trans (takeMove_now s), .inr (firstTickDelay_of_due rfl)⟩
  refine ⟨_, exec_send_of_idle b hi hidle, sendCommit_onTime b hct hidle hlevelt hcount, by omega, by omega,
    fun hm hzero => ?_⟩
  rcases hdelay with ⟨-, hno⟩ | hdelay
  · exact absurd hm hno
  · omega

end Sys2Proof.Safety
end

section
/-! The meanings, each by its whole next state (spec/40_transmitter_control.md R100 to R104; spec/41_bit_framer.md R120 to R125;
spec/42_host_environment.md R141). -/

namespace Sys2Proof.Safety

open Sys2Proof.Machine

variable {s : State}

/-- INIT before a first INIT and with interrupts masked (R100). -/
theorem exec_init_of_fresh (hi : s.inited = false) (hg : s.gie = false) : exec .init s = .next (initTransmitter s) := by
  simp [exec, execInit, hi, hg]

/-- Settles O12: the two faults are rows of R151's table, and INIT without a fault is known field by field. -/
theorem initFollowsItsRule : Obligations.InitFollowsItsRule := by
  refine ⟨decode_eq_ok_iff.2 (by decide), rfl, fun s hi => ?twice, fun s hi hg => ?unmasked, fun s hi hg => ?effect⟩
  case twice => exact exec_of_faultRaised (by simp [faultRaised, hi])
  case unmasked => exact exec_of_faultRaised (by simp [faultRaised, hi, hg])
  case effect => rw [exec_init_of_fresh hi hg, initTransmitter_eq]; rfl

/-- Settles O14: the commit of SEND, written out. -/
theorem sendCommits : Obligations.SendCommits :=
  fun b _ hi hb => exec_send_of_idle b hi hb

/-- No agent may issue an operation without an issuer (R75). -/
theorem not_mayIssue_of_internal {i : Instr} (h : issuerOf i = none) (a : Issuer) : ¬ MayIssue a i := by
  rw [mayIssue_iff, h]
  exact nofun

theorem with_own_tsCtrl {c : TsCtrl} (h : s.tsCtrl = c) : ({ s with tsCtrl := c } : State) = s := by
  subst h
  rfl

/-- Settles O15: TS_START writes `TS_CTRL` and nothing else. -/
theorem tsStartStartsTheTickSource : Obligations.TsStartStartsTheTickSource :=
  ⟨decode_eq_ok_iff.2 (by decide), not_mayIssue_of_internal rfl, fun _ => rfl, fun _ h => congrArg _ (with_own_tsCtrl h)⟩

/-- Settles O16: TS_STOP writes `TS_CTRL` and nothing else, so a second one finds what it writes. -/
theorem tsStopIsIdempotent : Obligations.TsStopIsIdempotent :=
  ⟨decode_eq_ok_iff.2 (by decide), not_mayIssue_of_internal rfl, fun _ => ⟨_, rfl, rfl, rfl⟩, fun _ h => congrArg _ (with_own_tsCtrl h)⟩

/-! TICK, by its position -/

theorem nextPos_ofNat (k : Nat) : nextPos (BitVec.ofNat 4 k) = BitVec.ofNat 4 (k + 1) := by
  simp [nextPos, BitVec.ofNat_add]

/-- A delivered TICK below position 10, as the meaning of TICK (R122 to R124). -/
theorem exec_tick_of_pos_lt (hd : deliveryEnabled s = true) {k : Nat} (hk : k < 10) (hpos : s.pos = BitVec.ofNat 4 k) :
    exec .tick s = .next { s with
      tsDue := false, line := lineAt s.pending (k + 1), pos := BitVec.ofNat 4 (k + 1),
      trace := s.trace ++ [{ obs := .tick (lineAt s.pending (k + 1)) s.busy, time := tickTime s }],
      ts := { s.ts with ops := s.ts.ops.tail } } := by
  have hval : s.pos.toNat = k := by rw [hpos, BitVec.toNat_ofNat]; omega
  rw [exec_tick_of_deliveryEnabled hd, deliverTick_of_pos_lt (by omega), hval, hpos, nextPos_ofNat]

/-- Settles O17: position 0 drives the start bit, and in a coherent state the line is idle before it. -/
theorem tickStartBit : Obligations.TickStartBit := by
  intro s hdue hie hgie hpos
  have hd := deliveryEnabled_iff.2 ⟨hdue, hie, hgie⟩
  refine ⟨exec_tick_of_pos_lt hd (k := 0) (by omega) hpos, fun hc => ?_⟩
  have hb := hc.busy_of_deliveryEnabled hd
  exact ⟨hb, by rw [hc.frameLevel (hc.inited_of_busy hb) hb, hpos]; rfl⟩

/-- Settles O18: position `k` of `1..8` drives bit `k-1`. -/
theorem tickDataBit : Obligations.TickDataBit := by
  intro s k hdue hie hgie h1 h8 hpos
  have hd := deliveryEnabled_iff.2 ⟨hdue, hie, hgie⟩
  refine ⟨?_, fun hc => hc.busy_of_deliveryEnabled hd⟩
  rw [exec_tick_of_pos_lt hd (by omega) hpos, lineAt_data s.pending h1 h8]

/-- Settles O19: position 9 drives the stop bit. -/
theorem tickStopBit : Obligations.TickStopBit := by
  intro s hdue hie hgie hpos
  have hd := deliveryEnabled_iff.2 ⟨hdue, hie, hgie⟩
  exact ⟨exec_tick_of_pos_lt hd (k := 9) (by omega) hpos, fun hc => hc.busy_of_deliveryEnabled hd⟩

/-- Settles O20: position 10 ends the frame and leaves the line, on which the stop bit stands. -/
theorem tickFinalizes : Obligations.TickFinalizes := by
  intro s hdue hie hgie hpos
  refine ⟨?_, fun hc => hc.line_of_pos_ten hpos⟩
  rw [exec_tick_of_deliveryEnabled (deliveryEnabled_iff.2 ⟨hdue, hie, hgie⟩), deliverTick_of_pos_ten hpos]

/-- Settles O22: a TICK that cannot be delivered holds. -/
theorem tickIsNotDeliveredUnlessEnabled : Obligations.TickIsNotDeliveredUnlessEnabled :=
  fun _ hno => if_neg (mt deliveryEnabled_iff.1 hno)

/-- Settles O25: a tick source that counts is at the end of the period or before it. -/
theorem clockCycleCounts : Obligations.ClockCycleCounts := by
  intro s hlevel hlive
  have hcount (hcs : drivingClockSelected s = true) : counting s = true := by simp [counting, hlevel, hlive, hcs]
  refine ⟨fun hcs => ?stopped, fun hcs hlt => ?counts, fun hcs hlast => ?completes⟩
  case stopped => exact clockCycle_of_not_counting (by simp [counting, hcs])
  case counts =>
    rcases clockCycle_of_counting (hcount hcs) with ⟨hend, -⟩ | ⟨-, e⟩
    · omega
    · exact e
  case completes =>
    rcases clockCycle_of_counting (hcount hcs) with ⟨-, e⟩ | ⟨hmore, -⟩
    · exact e
    · omega

/-- Settles O27: DI clears `GIE`, which a delivery needs. -/
theorem diMasksInterrupts : Obligations.DiMasksInterrupts := by
  refine ⟨decode_eq_ok_iff.2 (by decide), rfl, fun s => ⟨_, rfl, rfl, ?_⟩⟩
  rw [← Bool.not_eq_true, deliveryEnabled_iff]
  exact fun ⟨_, _, hgie⟩ => by cases hgie

end Sys2Proof.Safety
end

section
/-! Reset and the period (spec/10_state.md R20, R33; spec/70_reset_and_hazards.md R180, R194). -/

namespace Sys2Proof.Safety

open Sys2Proof.Machine

/-- Settles O33: the reset state names its values, and with `TS_DUE = 0` and `TS_CTRL = 0b00` nothing is enabled. -/
theorem resetGivesTheSpecsValues : Obligations.ResetGivesTheSpecsValues := by
  intro c u s
  have hcs : drivingClockSelected s = false := (stopped_fields rfl).2
  refine ⟨rfl, rfl, rfl, rfl, rfl, rfl, rfl, rfl, rfl, ?delivery, ?due⟩
  case delivery =>
    rw [← Bool.not_eq_true, deliveryEnabled_iff]
    exact fun ⟨hdue, _, _⟩ => by cases hdue
  case due => simp [dueEnabled, hcs]

/-- Settles O34: reset is before INIT, idle, with a silent tick source and empty records. -/
theorem resetIsCoherent : Obligations.ResetIsCoherent := by
  refine fun c u => ⟨?coherent, fun hb => ?frame, ⟨.nil, .nil⟩⟩
  case coherent => constructor <;> simp [State.resetWith, Config.posMax]
  case frame => cases hb

/-- Settles O51: the two bounds of a truncating division. -/
theorem periodTruncationBounds : Obligations.PeriodTruncationBounds :=
  fun c hbaud => ⟨Nat.div_mul_le_self c.fDrv c.baud, by
    rw [Nat.mul_comm]
    exact Nat.lt_mul_div_succ c.fDrv hbaud⟩

end Sys2Proof.Safety
end
